-- ==== Sys2Proof/Word.lean ====
section
/-!
DEFINITION. The word types of the engine: every host-visible register is 32 bits wide (Table R5), timer
registers are 16 bits wide (Table R5, PSC_W, ARR_W, CNT_W, CCR_W).
-/

namespace Sys2Proof

/-- A host-visible register, a command word, a host byte address (R5, R50, R70). -/
abbrev Word := BitVec 32

/-- A timer prescaler, auto-reload, counter or compare value (Table R5). -/
abbrev Half := BitVec 16

end Sys2Proof
end

