-- ==== Sys2Proof/Machine/Arith.lean ====
section
/-!
DEFINITION. The arithmetic of the rules: exact integers, round half up, ceiling (R7, spec/00_scope.md), and the
narrowing of exact results to registers (R77).
-/

namespace Sys2Proof.Machine

/-- `round(n / d) = floor((2·n + d) / (2·d))`, half up (R7). -/
def roundDiv (n d : Nat) : Nat := (2 * n + d) / (2 * d)

/-- `ceil(n / d)` for `d > 0` (R7). -/
def ceilDiv (n d : Nat) : Nat := (n + (d - 1)) / d

/-- A register that takes the low 32 bits of an exact value: `x[31:0]` (R6, R77). -/
def lowWord (n : Nat) : Word := BitVec.ofNat 32 n

/-- `x[63:32]` of an exact value below 2^64: what does not fit the low register of `w` bits (R77). -/
def highWord (w n : Nat) : Word := BitVec.ofNat 32 (n / 2 ^ w)

/-- The largest value of a field of `w` bits. -/
def fieldMax (w : Nat) : Nat := 2 ^ w - 1

/-- An exact value in a 16-bit timer register. -/
def toHalf (n : Nat) : Half := BitVec.ofNat 16 n

/-- A truth value as an integer. -/
def bit (b : Bool) : Nat := if b then 1 else 0

end Sys2Proof.Machine
end

