-- ==== Sys2Proof/Config.lean ====
section
/-!
DEFINITION. The parameters of the engine, Table R5 (spec/00_scope.md), and the selector tables, Table R91
(spec/40_clock.md): all of them fields of the configuration record `Config`, which State carries and no step writes (log
entry 4). The index types `TimId` and `ChId` hold the three banks and four channels that State has room for. The one
free value of the model stands at the end.
-/

namespace Sys2Proof

/-- The timer banks State holds: `N_TIM` is 3, and may be at most that (Table R5, R29, D27). -/
inductive TimId where
  | t0 | t1 | t2
deriving DecidableEq, Repr

/-- The compare channels of a bank that State holds, c = 1..4: `N_CH` is 4 (Table R5, R31). -/
inductive ChId where
  | c1 | c2 | c3 | c4
deriving DecidableEq, Repr

/-- One thing per timer bank. -/
structure PerTimer (α : Type) where
  t0 : α
  t1 : α
  t2 : α
deriving DecidableEq, Repr

/-- One thing per compare channel of a bank. -/
structure PerChan (α : Type) where
  c1 : α
  c2 : α
  c3 : α
  c4 : α
deriving DecidableEq, Repr

/-- The entry of bank `t`. -/
def PerTimer.get {α : Type} (v : PerTimer α) : TimId → α
  | .t0 => v.t0
  | .t1 => v.t1
  | .t2 => v.t2

/-- The same with bank `t`'s entry replaced. -/
def PerTimer.set {α : Type} (v : PerTimer α) (t : TimId) (a : α) : PerTimer α :=
  match t with
  | .t0 => { v with t0 := a }
  | .t1 => { v with t1 := a }
  | .t2 => { v with t2 := a }

/-- The entry of channel `c`. -/
def PerChan.get {α : Type} (v : PerChan α) : ChId → α
  | .c1 => v.c1
  | .c2 => v.c2
  | .c3 => v.c3
  | .c4 => v.c4

/-- Every channel's entry, given as a function of the channel. -/
def PerChan.tabulate {α : Type} (f : ChId → α) : PerChan α :=
  ⟨f .c1, f .c2, f .c3, f .c4⟩

/-- Width of the tick counter: `TICK_W` is 64, or 32 (Table R5, R28). -/
inductive TickWidth where
  | w64 | w32
deriving DecidableEq, Repr

/-- The bus a timer bank hangs on (Table R5, `tim_bus`). -/
inductive Bus where
  | apb1 | apb2
deriving DecidableEq, Repr

/-- The parameters to which Table R5 gives a value that it neither leaves open nor lets a platform choose. -/
structure FixedParams where
  /-- `F_MAX_CORE` (R95). -/
  fMaxCore : Nat
  /-- `F_MAX_AHB` (R95). -/
  fMaxAhb : Nat
  /-- `F_MAX_APB1` (R95). -/
  fMaxApb1 : Nat
  /-- `F_MAX_APB2` (R95). -/
  fMaxApb2 : Nat
  /-- `WS_T0` (R96). -/
  wsT0 : Nat
  /-- `WS_T1` (R96). -/
  wsT1 : Nat
  /-- `WS_T2` (R96). -/
  wsT2 : Nat
  /-- `ST_MAX` (R122). -/
  stMax : Nat
  /-- `PSC_W` (R152). -/
  pscW : Nat
  /-- `ARR_W` (R154). -/
  arrW : Nat
  /-- `CNT_W` (R154). -/
  cntW : Nat
  /-- `CCR_W` (R182). -/
  ccrW : Nat
  /-- `N_TIM` (R29, R73). -/
  nTim : Nat
  /-- `N_CH` (R31, R80). -/
  nCh : Nat
  /-- `tim_bus(t)` (R151). -/
  timBus : PerTimer Bus
  /-- Register and data width in bits (R77). -/
  dataW : Nat
deriving DecidableEq, Repr

/-- The values Table R5 gives them. -/
def FixedParams.tableR5 : FixedParams where
  fMaxCore := 72000000
  fMaxAhb := 72000000
  fMaxApb1 := 36000000
  fMaxApb2 := 72000000
  wsT0 := 24000000
  wsT1 := 48000000
  wsT2 := 72000000
  stMax := 16777215
  pscW := 16
  arrW := 16
  cntW := 16
  ccrW := 16
  nTim := 3
  nCh := 4
  timBus := ⟨.apb1, .apb1, .apb1⟩
  dataW := 32

/-- The six functions of R91, each as the table of its results, one entry per value of its field: a corrected table
replaces one without touching a rule. -/
structure Selectors where
  /-- `hpre_div`, by HPRE. -/
  hpre : Vector Nat 16
  /-- `ppre_div`, by PPRE1 or PPRE2. -/
  ppre : Vector Nat 8
  /-- `adc_div`, by ADCPRE. -/
  adc : Vector Nat 4
  /-- `xtpre_div`, by PLLXTPRE. -/
  xtpre : Vector Nat 2
  /-- `pll_mul`, by PLLMUL. -/
  pll : Vector Nat 16
  /-- `usb_num`, by USBPRE. -/
  usbNum : Vector Nat 2
  /-- `usb_den`, by USBPRE. -/
  usbDen : Vector Nat 2
deriving DecidableEq, Repr

/-- Table R91 (from general knowledge in the spec itself, log entry 16). -/
def Selectors.tableR91 : Selectors where
  hpre := #v[1, 1, 1, 1, 1, 1, 1, 1, 2, 4, 8, 16, 64, 128, 256, 512]
  ppre := #v[1, 1, 1, 1, 2, 4, 8, 16]
  adc := #v[2, 4, 6, 8]
  xtpre := #v[1, 2]
  pll := #v[2, 3, 4, 5, 6, 7, 8, 9, 10, 11, 12, 13, 14, 15, 16, 16]
  usbNum := #v[2, 1]
  usbDen := #v[3, 1]

/-- What any selector tables must meet: no divisor is 0, no PLL multiplier is above 16 (the factor in R5's constraint), and
the USB clock is no faster than the PLL. -/
abbrev Selectors.wf (t : Selectors) : Prop :=
  (∀ d ∈ t.hpre.toList ++ t.ppre.toList ++ t.adc.toList ++ t.xtpre.toList ++ t.usbDen.toList, 1 ≤ d) ∧
  (∀ m ∈ t.pll.toList, m ≤ 16) ∧ ∀ b : Fin 2, t.usbNum.get b ≤ t.usbDen.get b

/-- The configuration record: every parameter of Table R5, and the selector tables. -/
structure Config where
  /-- The parameters with one value in Table R5. -/
  fixed : FixedParams
  /-- The selector tables of R91. -/
  sel : Selectors
  /-- `HSE_HZ`, external oscillator frequency. -/
  hseHz : Nat
  /-- `HSI_HZ`, internal oscillator frequency (OPEN, default 8,000,000). -/
  hsiHz : Nat
  /-- `TICK_W`. -/
  tickW : TickWidth
  /-- `ST_LOAD_BIAS`: 0, a platform may set 1 (R27, C7). -/
  stLoadBias : Nat
  /-- `DUTY_FLOOR` in percent, 0 here, 0 to 100 allowed (R188). -/
  dutyFloor : Nat
  /-- Bits 31:10 of `BASE`, which is a multiple of 0x400 (R59, OPEN). -/
  baseHi : BitVec 22
  /-- `irq_of(t)` (OPEN, default 28, 29, 30). -/
  irqOf : PerTimer Nat
deriving DecidableEq, Repr

namespace Config

/-- The values Table R5 gives, and the default it names for each OPEN one; BASE has none there: 0, DESIGN CHOICE
(log entry 4, unsafe). -/
def standard : Config where
  fixed := .tableR5
  sel := .tableR91
  hseHz := 8000000
  hsiHz := 8000000
  tickW := .w64
  stLoadBias := 0
  dutyFloor := 0
  baseHi := 0
  irqOf := ⟨28, 29, 30⟩

/-- A legal configuration: the fixed parameters are Table R5's, the selector tables are such that R5's constraint does its
work, and the open parameters meet that constraint and the ranges of R27 (C7) and R188. R5 writes HSI_HZ where D9, the
decision it cites, writes HSI_HZ / 2; the weaker of the two stands here, so that what is shown for every legal configuration
covers both (log entry 4). -/
abbrev wf (c : Config) : Prop :=
  c.fixed = .tableR5 ∧ c.sel.wf ∧ 1 ≤ c.hsiHz ∧ 1 ≤ c.hseHz ∧ 16 * max c.hseHz (c.hsiHz / 2) < 2 ^ 32 ∧
  c.stLoadBias ≤ 1 ∧ c.dutyFloor ≤ 100

/-- `BASE` (R59). -/
def base (c : Config) : Word := c.baseHi ++ 0#10

/-- FREE VALUE (log entry 10, DESIGN CHOICE): the number of ticks STD2T computes from its UNIT flag, A0 and F_CORE where
ST_RELOAD is 0 although the time base is configured, a quotient the spec does not give (R130 divides by ST_RELOAD) in a
state no run reaches. Nothing constrains it. -/
opaque ticksAtZeroPeriod : Bool → Nat → Nat → Nat

end Config

end Sys2Proof
end

