-- ==== Sys2Proof/Machine/State.lean ====
section
/-!
DEFINITION. The state of the engine (spec/10_state.md): every piece Table R36 lists, grouped as the spec groups it,
then the model's own fields (the host's accesses, the order of agents, the level of the inputs, the outputs of the
last step). All of it plain data.
-/

namespace Sys2Proof.Machine

/-! ### Why a step can stop -/

/-- A fault ends the run. The engine itself has no traps (R209): the only fault is an access that is none of this
port's. -/
inductive Fault where
  /-- Raised by the host port on an access whose byte address lies outside the register window: no access of this
  port (R50, R54). SAFE: the model stops where another device of the bus would answer. -/
  | outsideWindow
deriving DecidableEq, Repr

/-- A refusal of the MODEL (not to be confused with the engine's refusals, which are next states, R200). -/
inductive Refusal where
  /-- Raised by the dispatcher for a command with no meaning yet. SAFE: it stops. No command is so rejected. -/
  | notModelled (mnemonic : String)
deriving DecidableEq, Repr

/-! ### The engine's own state -/

/-- A0..A3: operand registers, written by the host only (R14). -/
structure OperandRegs where
  a0 : Word
  a1 : Word
  a2 : Word
  a3 : Word
deriving DecidableEq, Repr

/-- R0..R3: result registers, written by accepted commands only (R15). -/
structure ResultRegs where
  r0 : Word
  r1 : Word
  r2 : Word
  r3 : Word
deriving DecidableEq, Repr

/-- SEQ, the phase of the clock sequencer (R16); the values 10 to 15, never reached, are excluded (log entry 18). -/
inductive Phase where
  | idle | flash | hseOn | hseWait | cfgr | pllOn | pllWait | switch | swWait | freq
deriving DecidableEq, Repr

/-- The codes of ERR (R18, Table R201). -/
inductive ErrCode where
  | none | badOp | field | clkInv | clkDone | noClk | stRange | stState | timId | chSel | div0 | noTim | noPwm
deriving DecidableEq, Repr

/-- ST_STATE (R27); the value 3, never reached, is excluded (log entry 18). -/
inductive StState where
  | unconfigured | running | stopped
deriving DecidableEq, Repr

/-- DIR as a bank stores it (R29); the value 3, never stored, is excluded (log entry 18). -/
inductive Dir where
  | up | down | center
deriving DecidableEq, Repr

/-- The four cached derived frequencies in Hz (R24). -/
structure Freqs where
  core : Word
  ahb : Word
  apb1 : Word
  apb2 : Word
deriving DecidableEq, Repr

/-- The clock images: the last value written to each collaborator register (R25). -/
structure ClockImages where
  /-- O_FLASH. -/
  flash : Word
  /-- O_RCCCR: bit 16 `hse_on`, bit 24 `pll_on`. -/
  rcccr : Word
  /-- O_CFGR. -/
  cfgr : Word
deriving DecidableEq, Repr

/-- The SysTick state (R27), TICK apart. -/
structure SysTick where
  /-- ST_STATE. -/
  state : StState
  /-- ST_RELOAD: the tick period in core-clock cycles. -/
  reload : BitVec 24
  /-- O_STLOAD: the value presented to the down-counter's reload register. -/
  load : BitVec 24
  /-- CB_EN. -/
  cbEn : Bool
  /-- `st_enable`. -/
  enable : Bool
  /-- `st_tickint`. -/
  tickint : Bool
  /-- `st_clksrc`. -/
  clksrc : Bool
deriving DecidableEq, Repr

/-- TIM[t] (R29). -/
structure Timer where
  cfgd : Bool
  en : Bool
  dir : Dir
  arpe : Bool
  opm : Bool
  uie : Bool
  uif : Bool
  chsel : BitVec 4
  freq : Word
  psc : Half
  arrPre : Half
  arrAct : Half
  cntInit : Half
deriving DecidableEq, Repr

/-- PWM[t][c] (R31). -/
structure Channel where
  cfgd : Bool
  inv : Bool
  pol : Bool
  pe : Bool
  duty : BitVec 7
  ccrPre : Half
  ccrAct : Half
deriving DecidableEq, Repr

/-- TIM[t] at reset (Table R36). -/
def Timer.reset : Timer where
  cfgd := false
  en := false
  dir := .up
  arpe := false
  opm := false
  uie := false
  uif := false
  chsel := 0
  freq := 0
  psc := 0
  arrPre := 0xFFFF
  arrAct := 0xFFFF
  cntInit := 0

/-- PWM[t][c] at reset (Table R36). -/
def Channel.reset : Channel where
  cfgd := false
  inv := false
  pol := false
  pe := false
  duty := 0
  ccrPre := 0
  ccrAct := 0

/-! ### The engine's surroundings, as data -/

/-- The polled inputs `hse_rdy`, `pll_rdy`, `sws[1:0]` (R26). -/
structure ClkInputs where
  hseRdy : Bool
  pllRdy : Bool
  sws : BitVec 2
deriving DecidableEq, Repr

/-- Width of a host access; only words are accepted (R56). -/
inductive AccessSize where
  | byte | half | word
deriving DecidableEq, Repr

/-- Read, or write of a value. -/
inductive AccessKind where
  | read
  | write (v : Word)
deriving DecidableEq, Repr

/-- One access of the host at a byte address (R50). -/
structure HostAccess where
  addr : Word
  size : AccessSize
  kind : AccessKind
deriving DecidableEq, Repr

/-- What the port answered in the last step. -/
inductive HostResp where
  /-- No access completed or was attempted. -/
  | none
  /-- A read completed with this value (R51). -/
  | data (v : Word)
  /-- A write completed (R52). -/
  | done
  /-- A write was attempted and stands stalled (R113). -/
  | stalled
  /-- A bus-error response (R56). -/
  | busError
deriving DecidableEq, Repr

/-- The host's side: the accesses it has still to issue, an interrupt handler's before those of the thread it pre-empted
(log entry 23); the write that stands stalled on the port (at most one, R113); and the port's answer of the last step. -/
structure HostSide where
  queue : List HostAccess
  port : Option HostAccess
  resp : HostResp
deriving DecidableEq, Repr

/-- Which agent takes a step (R13), or what changes around the engine: the host port, the sequencer, a tick event, an
update event of a bank, a change of the polled inputs (R35), the reset input (R230). -/
inductive Turn where
  | host
  /-- An interrupt handler pre-empts the foreground thread (R13, R131, R214); `l` is what it will access. -/
  | handler (l : List HostAccess)
  | sequencer
  | tick
  | uev (t : TimId)
  | inputs (i : ClkInputs)
  | rst
deriving DecidableEq, Repr

/-- The output `tick_cb`: its level in the last step, and how often it was raised (R205). -/
structure CallbackOut where
  strobe : Bool
  count : Nat
deriving DecidableEq, Repr

/-! ### The state -/

/-- The machine: every piece of state of Table R36, then the model's own fields. -/
structure State where
  /-- The configuration record (Table R5, R91). The MODEL's own field; no step writes it (log entry 4). -/
  cfg : Config
  /-- A0..A3 (R14). -/
  ops : OperandRegs
  /-- R0..R3 (R15). -/
  res : ResultRegs
  /-- SEQ (R16). -/
  seq : Phase
  /-- ERR (R18). -/
  err : ErrCode
  /-- CLAMP: bit 0 CL_PSC_LO, 1 CL_PSC_HI, 2 CL_ARR, 3 CL_CNT, 4 CL_DUTY, 5 CL_CCR (R19). -/
  clamp : BitVec 6
  /-- CLKREQ (R21). -/
  clkreq : Word
  /-- FLREQ (R22). -/
  flreq : Word
  /-- CKFLAGS: bit 0 V_CORE, 1 V_AHB, 2 V_APB1, 3 V_APB2, 4 V_SW, 5 V_WS (R23). -/
  ckflags : BitVec 6
  /-- F_CORE, F_AHB, F_APB1, F_APB2 (R24). -/
  freqs : Freqs
  /-- CLK_VALID (R24). -/
  clkValid : Bool
  /-- O_FLASH, O_RCCCR, O_CFGR (R25). -/
  img : ClockImages
  /-- ST_STATE, ST_RELOAD, O_STLOAD, CB_EN and the three SysTick control images (R27). -/
  st : SysTick
  /-- TICK; with TICK_W = 32 its upper half is 0 (R28, log entry 9). -/
  tick : BitVec 64
  /-- TIM[0..2] (R29). -/
  tim : PerTimer Timer
  /-- PWM[0..2][1..4] (R31). -/
  pwm : PerTimer (PerChan Channel)
  /-- NVIC_EN[0..2] (R33). -/
  nvicEn : PerTimer Bool
  /-- The present level of the polled inputs (R26). The MODEL's own field (log entry 3). -/
  inputs : ClkInputs
  /-- The host and its port. The MODEL's own field (log entries 2, 5, 7, 23). -/
  host : HostSide
  /-- Which agent takes each of the next steps (R13, R210). The MODEL's own field (log entry 1). -/
  turns : List Turn
  /-- The output `tick_cb` (R205). The MODEL's own field (log entry 11). -/
  cb : CallbackOut
deriving DecidableEq, Repr

/-! ### `X <- v` (R9): one named update per field -/

def State.setOps (s : State) (x : OperandRegs) : State := { s with ops := x }
def State.setRes (s : State) (x : ResultRegs) : State := { s with res := x }
def State.setSeq (s : State) (x : Phase) : State := { s with seq := x }
def State.setErr (s : State) (x : ErrCode) : State := { s with err := x }
def State.setClamp (s : State) (x : BitVec 6) : State := { s with clamp := x }
def State.setClkreq (s : State) (x : Word) : State := { s with clkreq := x }
def State.setFlreq (s : State) (x : Word) : State := { s with flreq := x }
def State.setCkflags (s : State) (x : BitVec 6) : State := { s with ckflags := x }
def State.setFreqs (s : State) (x : Freqs) : State := { s with freqs := x }
def State.setClkValid (s : State) (x : Bool) : State := { s with clkValid := x }
def State.setImg (s : State) (x : ClockImages) : State := { s with img := x }
def State.setSt (s : State) (x : SysTick) : State := { s with st := x }
def State.setTick (s : State) (x : BitVec 64) : State := { s with tick := x }
def State.setTim (s : State) (x : PerTimer Timer) : State := { s with tim := x }
def State.setPwm (s : State) (x : PerTimer (PerChan Channel)) : State := { s with pwm := x }
def State.setNvicEn (s : State) (x : PerTimer Bool) : State := { s with nvicEn := x }
def State.setInputs (s : State) (x : ClkInputs) : State := { s with inputs := x }
def State.setHost (s : State) (x : HostSide) : State := { s with host := x }
def State.setTurns (s : State) (x : List Turn) : State := { s with turns := x }
def State.setCb (s : State) (x : CallbackOut) : State := { s with cb := x }

/-! ### Reset -/

/-- The machine right after reset: Table R36 (R36, R230), with the parameters at their stated values, no access and no
turn waiting, and the polled inputs low (log entries 1 to 4). -/
def State.reset : State where
  cfg := Config.standard
  ops := ⟨0, 0, 0, 0⟩
  res := ⟨0, 0, 0, 0⟩
  seq := .idle
  err := .none
  clamp := 0
  clkreq := 0
  flreq := 0
  ckflags := 0
  freqs := ⟨0, 0, 0, 0⟩
  clkValid := false
  img := ⟨0, 0, 0⟩
  st := ⟨.unconfigured, 0, 0, false, false, false, false⟩
  tick := 0
  tim := ⟨Timer.reset, Timer.reset, Timer.reset⟩
  pwm :=
    let bank : PerChan Channel := ⟨Channel.reset, Channel.reset, Channel.reset, Channel.reset⟩
    ⟨bank, bank, bank⟩
  nvicEn := ⟨false, false, false⟩
  inputs := ⟨false, false, 0⟩
  host := ⟨[], none, .none⟩
  turns := []
  cb := ⟨false, 0⟩

end Sys2Proof.Machine
end

