-- ==== Sys2Proof/Machine/Operands.lean ====
section
/-!
DEFINITION. Operand forms: the fields of CLKREQ and FLREQ (R21, R22) and what each selector value stands for
(R91), the derived frequencies (R92 to R94), timer identifiers (R73), channel selections (R80), the clamped 16-bit
operands and the signed duty (R154, R181), the timer clock (R151), the prescaler (R152) and compare (R182) functions.
-/

namespace Sys2Proof.Machine

/-! ### Fields of CLKREQ and FLREQ (R21, R22) -/

/-- The writable bits of CLKREQ (R21, R52). -/
def clkreqMask : Word := 0x007FFFF3#32

/-- The writable bits of FLREQ (R22, R52). -/
def flreqMask : Word := 0x00000017#32

/-- SW, bits 1:0. -/
def reqSw (c : Word) : BitVec 2 := c.extractLsb' 0 2
/-- HPRE, bits 7:4. -/
def reqHpre (c : Word) : BitVec 4 := c.extractLsb' 4 4
/-- PPRE1, bits 10:8. -/
def reqPpre1 (c : Word) : BitVec 3 := c.extractLsb' 8 3
/-- PPRE2, bits 13:11. -/
def reqPpre2 (c : Word) : BitVec 3 := c.extractLsb' 11 3
/-- ADCPRE, bits 15:14. -/
def reqAdcpre (c : Word) : BitVec 2 := c.extractLsb' 14 2
/-- PLLSRC, bit 16: 1 for the external oscillator. -/
def reqPllsrc (c : Word) : Bool := c.getLsbD 16
/-- PLLXTPRE, bit 17. -/
def reqPllxtpre (c : Word) : Bool := c.getLsbD 17
/-- PLLMUL, bits 21:18. -/
def reqPllmul (c : Word) : BitVec 4 := c.extractLsb' 18 4
/-- USBPRE, bit 22. -/
def reqUsbpre (c : Word) : Bool := c.getLsbD 22
/-- LAT, bits 2:0 of FLREQ. -/
def reqLat (fl : Word) : BitVec 3 := fl.extractLsb' 0 3

/-! ### Selector decoding (R91): the tables of the configuration record -/

/-- `hpre_div`. -/
def hpreDiv (cfg : Config) (v : BitVec 4) : Nat := cfg.sel.hpre.get v.toFin

/-- `ppre_div`. -/
def ppreDiv (cfg : Config) (v : BitVec 3) : Nat := cfg.sel.ppre.get v.toFin

/-- `adc_div`. -/
def adcDiv (cfg : Config) (v : BitVec 2) : Nat := cfg.sel.adc.get v.toFin

/-- A one-bit field as the index of its table. -/
def bitIndex (b : Bool) : Fin 2 := if b then 1 else 0

/-- `xtpre_div`. -/
def xtpreDiv (cfg : Config) (b : Bool) : Nat := cfg.sel.xtpre.get (bitIndex b)

/-- `pll_mul`. -/
def pllMul (cfg : Config) (v : BitVec 4) : Nat := cfg.sel.pll.get v.toFin

/-- The USB clock of a PLL frequency: × `usb_num` / `usb_den`, floored (R100). -/
def usbClock (cfg : Config) (usbpre : Bool) (f : Nat) : Nat :=
  f * cfg.sel.usbNum.get (bitIndex usbpre) / cfg.sel.usbDen.get (bitIndex usbpre)

/-! ### Derived frequencies of a request (R92 to R94) -/

/-- `pll_in` (R92). -/
def pllIn (cfg : Config) (c : Word) : Nat :=
  if reqPllsrc c then cfg.hseHz / xtpreDiv cfg (reqPllxtpre c) else cfg.hsiHz / 2

/-- `f_pll` (R92). -/
def fPll (cfg : Config) (c : Word) : Nat := pllIn cfg c * pllMul cfg (reqPllmul c)

/-- `f_core` (R93); 0 for the reserved SW = 3. -/
def fCore (cfg : Config) (c : Word) : Nat :=
  match (reqSw c).toNat with
  | 0 => cfg.hsiHz
  | 1 => cfg.hseHz
  | 2 => fPll cfg c
  | _ => 0

/-- `f_ahb` (R94). -/
def fAhb (cfg : Config) (c : Word) : Nat := fCore cfg c / hpreDiv cfg (reqHpre c)

/-- `f_apb1` (R94). -/
def fApb1 (cfg : Config) (c : Word) : Nat := fAhb cfg c / ppreDiv cfg (reqPpre1 c)

/-- `f_apb2` (R94). -/
def fApb2 (cfg : Config) (c : Word) : Nat := fAhb cfg c / ppreDiv cfg (reqPpre2 c)

/-- `ws_req` (R96); 3 marks that no count is legal. -/
def wsReq (cfg : Config) (f : Nat) : Nat :=
  if f ≤ cfg.fixed.wsT0 then 0 else if f ≤ cfg.fixed.wsT1 then 1 else if f ≤ cfg.fixed.wsT2 then 2 else 3

/-! ### Timers and channels -/

/-- The bank a TID names; none where TID ≥ N_TIM (R73), and for TID = 3, which is always refused (D27). -/
def timOf (cfg : Config) (tid : BitVec 2) : Option TimId :=
  if cfg.fixed.nTim ≤ tid.toNat then none
  else
    match tid.toNat with
    | 0 => some .t0
    | 1 => some .t1
    | 2 => some .t2
    | _ => none

/-- `chmask(CHSEL)`, a mask of N_CH bits; none where CHSEL is not recognised (R80). -/
def chmask (cfg : Config) (chsel : BitVec 8) : Option (BitVec 4) :=
  if chsel = 0xFF#8 then some (BitVec.ofNat 4 (fieldMax cfg.fixed.nCh))
  else if 1 ≤ chsel.toNat ∧ chsel.toNat ≤ fieldMax cfg.fixed.nCh then some (chsel.extractLsb' 0 4)
  else none

/-- Bit c − 1 of a normalised mask selects channel c (R80). -/
def selects (m : BitVec 4) : ChId → Bool
  | .c1 => m.getLsbD 0
  | .c2 => m.getLsbD 1
  | .c3 => m.getLsbD 2
  | .c4 => m.getLsbD 3

/-- DIR as a bank stores it; none for the reserved value 3 (R74). -/
def dirOf (d : BitVec 2) : Option Dir :=
  match d.toNat with
  | 0 => some .up
  | 1 => some .down
  | 2 => some .center
  | _ => none

/-- `min(A, 65535)` of an operand for a register of `w` bits, auto-reload or initial counter (R153, R154, R183). -/
def clampTo (w : Nat) (a : Word) : Nat := min a.toNat (fieldMax w)

/-- `A > 65535`: the operand was lowered (R153, R154, R183). -/
def exceeds (w : Nat) (a : Word) : Bool := decide (fieldMax w < a.toNat)

/-! ### Timer clock and prescaler (R151, R152) -/

/-- R151 for a bus frequency and the prescaler selector in force. -/
def timerClock (cfg : Config) (fBus : Nat) (ppre : BitVec 3) : Nat := if ppreDiv cfg ppre = 1 then fBus else 2 * fBus

/-- The clock bank `t` counts, from its bus (Table R5, `tim_bus`) and the selectors last programmed (R151). -/
def fTim (s : State) (t : TimId) : Nat :=
  match s.cfg.fixed.timBus.get t with
  | .apb1 => timerClock s.cfg s.freqs.apb1.toNat (reqPpre1 s.img.cfgr)
  | .apb2 => timerClock s.cfg s.freqs.apb2.toNat (reqPpre2 s.img.cfgr)

/-- What the prescaler function answers: the value and its clamp flags (R152). -/
structure PscResult where
  value : Nat
  lo : Bool
  hi : Bool
deriving DecidableEq, Repr

/-- `psc(f, F, a)` (R152), for F ≥ 1. -/
def pscOf (cfg : Config) (f target a : Nat) : PscResult :=
  let q := roundDiv f (target * (a + 1))
  if q = 0 then ⟨0, true, false⟩
  else if fieldMax cfg.fixed.pscW < q - 1 then ⟨fieldMax cfg.fixed.pscW, false, true⟩
  else ⟨q - 1, false, false⟩

/-! ### Duty and compare (R181, R182) -/

/-- `sext_32(A0)`, the duty operand (R181). -/
def dutyOperand (a : Word) : Int := a.toInt

/-- `dc(d)` (R181, R188). -/
def dutyClamp (cfg : Config) (d : Int) : Nat :=
  if d < cfg.dutyFloor then cfg.dutyFloor else if 100 < d then 100 else d.toNat

/-- Flag DUTY: the clamp changed the operand (R181). -/
def dutyClamped (cfg : Config) (d : Int) : Bool := decide ((dutyClamp cfg d : Int) ≠ d)

/-- `v = round(d × (a + 1) / 100)` (R182). -/
def ccrExact (d a : Nat) : Nat := roundDiv (d * (a + 1)) 100

/-- `ccr(d, a)` (R182). -/
def ccrOf (cfg : Config) (d a : Nat) : Nat := min (min (ccrExact d a) (a + 1)) (fieldMax cfg.fixed.ccrW)

/-- Flag CCR: v > 65535 (R182). -/
def ccrClamped (cfg : Config) (d a : Nat) : Bool := decide (fieldMax cfg.fixed.ccrW < ccrExact d a)

/-! ### SysTick (R121, R122, R130) -/

/-- A period in core cycles fits (R122). -/
def periodFits (cfg : Config) (p : Nat) : Bool := decide (1 ≤ p ∧ p ≤ cfg.fixed.stMax)

/-- `r`, the reload value of a period in microseconds (R121). -/
def reloadOf (core period : Nat) : Nat := roundDiv (core * period) 1000000

/-- U of R130: 1,000,000 for microseconds, 1,000 for milliseconds. -/
def unitsPerSecond (ms : Bool) : Nat := if ms then 1000 else 1000000

/-- `n`, the tick-equivalent of a duration (R130). The quotient has no value for a period of 0, which no configured time
base has: a free value there (log entry 10). -/
def ticksOf (ms : Bool) (duration core period : Nat) : Nat :=
  if period = 0 then Config.ticksAtZeroPeriod ms duration core
  else ceilDiv (duration * core) (unitsPerSecond ms * period)

end Sys2Proof.Machine
end

