-- ==== Sys2Proof/Machine/Flags.lean ====
section
/-!
DEFINITION. Flags: CKFLAGS (R97), the bits a committing command adds to CLAMP (R19, R154, R184, R185), the clamp report a
pure command leaves in R1 (R153, R183), the interrupt request lines (R208) and the numeric codes of the views (R16, R18,
R27, R29).
-/

namespace Sys2Proof.Machine

/-- `ckflags(c, fl)` (R97). -/
def ckflagsOf (cfg : Config) (c fl : Word) : BitVec 6 :=
  if reqSw c = 3#2 then 0x10#6
  else
    BitVec.ofBool (decide ((reqLat fl).toNat ≠ wsReq cfg (fCore cfg c)))
      ++ 0#1
      ++ BitVec.ofBool (decide (cfg.fixed.fMaxApb2 < fApb2 cfg c))
      ++ BitVec.ofBool (decide (cfg.fixed.fMaxApb1 < fApb1 cfg c))
      ++ BitVec.ofBool (decide (cfg.fixed.fMaxAhb < fAhb cfg c))
      ++ BitVec.ofBool (decide (cfg.fixed.fMaxCore < fCore cfg c))

/-- The CLAMP bits TMCFG sets: CL_PSC_LO, CL_PSC_HI, CL_ARR, CL_CNT (Pseudocode R154). -/
def timerClampBits (lo hi arr cnt : Bool) : BitVec 6 :=
  0#2 ++ BitVec.ofBool cnt ++ BitVec.ofBool arr ++ BitVec.ofBool hi ++ BitVec.ofBool lo

/-- The CLAMP bits PWCFG and PWDUTY set: CL_DUTY, CL_CCR (Pseudocode R184, R185). -/
def pwmClampBits (duty ccr : Bool) : BitVec 6 := BitVec.ofBool ccr ++ BitVec.ofBool duty ++ 0#4

/-- The clamp report of TMPSC and PWCCR in R1: three bits, the rest 0 (R153, R183). -/
def clampReport (b0 b1 b2 : Bool) : Word :=
  0#29 ++ BitVec.ofBool b2 ++ BitVec.ofBool b1 ++ BitVec.ofBool b0

/-- `tim_irq[t] = TIM[t].UIF ∧ TIM[t].UIE` (R33, R208). -/
def timIrq (s : State) (t : TimId) : Bool := (s.tim.get t).uif && (s.tim.get t).uie

/-- The interrupt number the request of bank `t` reaches the host's core with, if it does (R208). -/
def coreIrq (s : State) (t : TimId) : Option Nat :=
  if timIrq s t && s.nvicEn.get t then some (s.cfg.irqOf.get t) else none

/-- BUSY: SEQ ≠ 0 (R20). -/
def busy (s : State) : Bool := s.seq != .idle

/-- SEQ's value (R16). -/
def Phase.code : Phase → BitVec 4
  | .idle => 0
  | .flash => 1
  | .hseOn => 2
  | .hseWait => 3
  | .cfgr => 4
  | .pllOn => 5
  | .pllWait => 6
  | .switch => 7
  | .swWait => 8
  | .freq => 9

/-- ERR's code (Table R201). -/
def ErrCode.code : ErrCode → BitVec 8
  | .none => 0
  | .badOp => 1
  | .field => 2
  | .clkInv => 3
  | .clkDone => 4
  | .noClk => 5
  | .stRange => 6
  | .stState => 7
  | .timId => 8
  | .chSel => 9
  | .div0 => 10
  | .noTim => 11
  | .noPwm => 12

/-- ST_STATE's value (R27). -/
def StState.code : StState → BitVec 2
  | .unconfigured => 0
  | .running => 1
  | .stopped => 2

/-- DIR's value (R29). -/
def Dir.code : Dir → BitVec 2
  | .up => 0
  | .down => 1
  | .center => 2

end Sys2Proof.Machine
end

