-- ==== Sys2Proof/Machine/Ops.lean ====
section
/-!
DEFINITION. The operations the meanings share: the refusal, which is this engine's only form of a synchronous exception
(R200, R209: there is no trap entry, no saved state and no return); writes of result registers, of a bank, of a
channel's compare value (R186); the selection of a bank and of channels with their refusals (R73, R80); and the tick
counter's width (R28).
-/

namespace Sys2Proof.Machine

/-- `refuse(E_x)`: write no state but ERR, and end the command (R9, R200). It takes the place of "taking an exception";
since nothing is entered there is no return from it (R212). -/
def refuse (e : ErrCode) (s : State) : Host.Outcome State Fault Refusal := .next (s.setErr e)

/-! ### Result registers -/

/-- `R0 <- v`. -/
def setR0 (v : Word) (s : State) : State := s.setRes { s.res with r0 := v }

/-- `R0 <- v; R1 <- w`. -/
def setR01 (v w : Word) (s : State) : State := s.setRes { s.res with r0 := v, r1 := w }

/-- A 64-bit result, low word first: `R1 ++ R0` (R77). -/
def setR01Wide (n : Nat) (s : State) : State := setR01 (lowWord n) (highWord s.cfg.fixed.dataW n) s

/-! ### Banks and channels -/

/-- TIM[t] rewritten by `f`; no other bank is touched. -/
def updTim (t : TimId) (f : Timer → Timer) (s : State) : State := s.setTim (s.tim.set t (f (s.tim.get t)))

/-- The channels of bank `t` that mask `m` selects rewritten by `f`; the others, and other banks, are not touched. -/
def updChannels (t : TimId) (m : BitVec 4) (f : Channel → Channel) (s : State) : State :=
  let bank := s.pwm.get t
  s.setPwm (s.pwm.set t (PerChan.tabulate fun c => if selects m c then f (bank.get c) else bank.get c))

/-- Every selected channel of bank `t` is configured (R185). -/
def selectedConfigured (s : State) (t : TimId) (m : BitVec 4) : Bool :=
  let ok (c : ChId) : Bool := !selects m c || ((s.pwm.get t).get c).cfgd
  ok .c1 && ok .c2 && ok .c3 && ok .c4

/-- Write the compare value `v` with preload setting `e` (R186). -/
def writeCompare (v : Half) (e : Bool) (ch : Channel) : Channel :=
  { ch with ccrPre := v, ccrAct := if e then ch.ccrAct else v }

/-- `CLAMP <- CLAMP | bits` (R19: set, never cleared, by a command). -/
def addClamp (bits : BitVec 6) (s : State) : State := s.setClamp (s.clamp ||| bits)

/-- The check TID < N_TIM: E_TIMID, or the command goes on with bank `t` (R73, R202). -/
def withBank (tid : BitVec 2) (s : State) (k : TimId → Host.Outcome State Fault Refusal) :
    Host.Outcome State Fault Refusal :=
  match timOf s.cfg tid with
  | none => refuse .timId s
  | some t => k t

/-- The check that CHSEL is recognised: E_CHSEL, or the command goes on with the normalised mask (R80, R202). -/
def withChannels (chsel : BitVec 8) (s : State) (k : BitVec 4 → Host.Outcome State Fault Refusal) :
    Host.Outcome State Fault Refusal :=
  match chmask s.cfg chsel with
  | none => refuse .chSel s
  | some m => k m

/-! ### The tick counter (R28) -/

/-- A value modulo 2^TICK_W (R28, log entry 9). -/
def tickWrap (cfg : Config) (v : BitVec 64) : BitVec 64 :=
  match cfg.tickW with
  | .w64 => v
  | .w32 => v &&& 0x00000000FFFFFFFF#64

/-- TICK[31:0], the view TICK_LO (R28). -/
def tickLo (s : State) : Word := s.tick.extractLsb' 0 32

/-- TICK[63:32], the view TICK_HI; 0 with TICK_W = 32 (R28, R125). -/
def tickHi (s : State) : Word :=
  match s.cfg.tickW with
  | .w64 => s.tick.extractLsb' 32 32
  | .w32 => 0#32

/-- `TICK <- v mod 2^TICK_W`. -/
def writeTick (v : BitVec 64) (s : State) : State := s.setTick (tickWrap s.cfg v)

/-- Put ST_STATE and `st_enable` (R126, R127). -/
def setRunState (r : StState) (en : Bool) (s : State) : State :=
  s.setSt { s.st with state := r, enable := en }

end Sys2Proof.Machine
end

