-- ==== Sys2Proof/Machine/Events.lean ====
section
/-!
DEFINITION. Events and reset: the tick event (R204, R205), the update event of a bank (R206, spec/60_exceptions.md) and the
reset input (R36, R230). Each is one atomic step and is not queued (R34).
-/

namespace Sys2Proof.Machine

/-- The callback strobe of R204: raised in this step, and counted (R205, log entry 11). -/
def strobe (s : State) : State := s.setCb { strobe := true, count := s.cb.count + 1 }

/-- The tick event (R204): ignored unless Running; the increment, then the strobe if CB_EN. -/
def tickEvent (s : State) : State :=
  if s.st.state = .running then
    let s1 := writeTick (s.tick + 1#64) s
    if s.st.cbEn then strobe s1 else s1
  else s

/-- A channel at an update event: with PE = 1 the preload value becomes active (R206). -/
def channelUpdate (ch : Channel) : Channel := { ch with ccrAct := if ch.pe then ch.ccrPre else ch.ccrAct }

/-- A bank at an update event: with ARPE = 1 the preload value becomes active; then UIF is set (R206). -/
def timerUpdate (b : Timer) : Timer := { b with arrAct := if b.arpe then b.arrPre else b.arrAct, uif := true }

/-- The update event of bank `t` (R206), whatever EN and CFGD are. -/
def updateEvent (t : TimId) (s : State) : State := updChannels t 0xF#4 channelUpdate (updTim t timerUpdate s)

/-- Reset (R36, R230): every piece of the engine's state takes its value of Table R36, a running sequence is abandoned
and a stalled write is dropped. The parameters, the inputs and what the host and the environment do next are not the
engine's; no strobe is raised (log entry 15). -/
def resetEvent (s : State) : State :=
  { State.reset with
    cfg := s.cfg
    inputs := s.inputs
    host := { s.host with port := none }
    turns := s.turns
    cb := s.cb }

end Sys2Proof.Machine
end

