-- ==== Sys2Proof/Syntax.lean ====
section
/-!
DEFINITION. The commands of Table R78 (spec/30_encoding.md), one constructor per row of spec/opcode_table.json, with
the fields of formats Z, B, T, TC, P and D (R71 to R76) as the unsigned values of their bits (R77).
-/

namespace Sys2Proof

/-- A command. TID and CHSEL are carried as given: TID = 3 and an unrecognised CHSEL are well-formed and refused by
the command's own checks (R73, R80). -/
inductive Instr where
  /-- 0x01: derive the frequencies of the request (R98). -/
  | ckdrv
  /-- 0x02: wait-state selection (R99). -/
  | ckws
  /-- 0x03: ADC and USB clock (R100). -/
  | ckaux
  /-- 0x04: configure the clock (R101). -/
  | ckcfg
  /-- 0x10: reload value from a tick period (R121). -/
  | stcalc
  /-- 0x11: configure the time base (R124). -/
  | stcfg
  /-- 0x12: read the tick counter (R125). -/
  | stget
  /-- 0x13: overwrite the tick counter (R128). -/
  | stset
  /-- 0x14: enable toggle (R126). -/
  | sten
  /-- 0x15: disable toggle (R127). -/
  | stdis
  /-- 0x16: register (EN = 1) or unregister the tick callback (R129). -/
  | stcb (en : Bool)
  /-- 0x17: tick-equivalent of a duration, UNIT = 1 for milliseconds (R130). -/
  | std2t (unit : Bool)
  /-- 0x20: prescaler derivation (R153). -/
  | tmpsc
  /-- 0x21: configure a timer (R154, R74). -/
  | tmcfg (chsel : BitVec 8) (ie opm arpe : Bool) (dir tid : BitVec 2)
  /-- 0x22: start the counter (R156). -/
  | tmen (tid : BitVec 2)
  /-- 0x23: stop and clear the counter (R157). -/
  | tmdis (tid : BitVec 2)
  /-- 0x24: reset a timer bank (R158). -/
  | tmrst (tid : BitVec 2)
  /-- 0x25: read the pending flag (R159). -/
  | tmirq (tid : BitVec 2)
  /-- 0x26: clear the pending flag (R160). -/
  | tmclr (tid : BitVec 2)
  /-- 0x27: acknowledge inside a handler (R161). -/
  | tmack (tid : BitVec 2)
  /-- 0x30: duty to compare value (R183). -/
  | pwccr
  /-- 0x31: configure PWM channels (R184, R75). -/
  | pwcfg (chsel : BitVec 8) (pe pol inv : Bool) (tid : BitVec 2)
  /-- 0x32: change the duty (R185, R76). -/
  | pwduty (chsel : BitVec 8) (tid : BitVec 2)
deriving DecidableEq, Repr

end Sys2Proof
end

