-- ==== Sys2Proof/WellFormed.lean ====
section
/-!
DEFINITION. Well-formedness of a command (R70): its fields hold no reserved value. The one reserved field value of the
map is DIR = 3 of TMCFG (R74, R79 c); the reserved bits have no place in `Instr` and are checked by the decoder.
-/

namespace Sys2Proof

/-- R70, R79 (c): no field holds a reserved value. -/
def Instr.wellFormed : Instr → Bool
  | .tmcfg _ _ _ _ dir _ => dir != 3#2
  | .ckdrv => true
  | .ckws => true
  | .ckaux => true
  | .ckcfg => true
  | .stcalc => true
  | .stcfg => true
  | .stget => true
  | .stset => true
  | .sten => true
  | .stdis => true
  | .stcb _ => true
  | .std2t _ => true
  | .tmpsc => true
  | .tmen _ => true
  | .tmdis _ => true
  | .tmrst _ => true
  | .tmirq _ => true
  | .tmclr _ => true
  | .tmack _ => true
  | .pwccr => true
  | .pwcfg _ _ _ _ _ => true
  | .pwduty _ _ => true

end Sys2Proof
end

