-- ==== Sys2Proof/Decode.lean ====
section
/-!
DEFINITION. The decoder and the encoder of the command word (R70 to R80, Table R78, spec/30_encoding.md). Decoding is
total, depends on no state, and rejects by name: an OP outside the table, or a reserved bit or reserved field value
(R79 a, b, c).
-/

namespace Sys2Proof

/-- Why a word is no well-formed command (R79). -/
inductive DecodeError where
  /-- R79 (a): OP is not in Table R78. -/
  | badOp
  /-- R79 (b), (c): a reserved bit is 1, or TMCFG has DIR = 3. -/
  | field
deriving DecidableEq, Repr

/-- OP = w[31:24] (R70). -/
def opField (w : Word) : BitVec 8 := w.extractLsb' 24 8

/-- TID, bits 1:0 of formats T, TC, P and D (R73 to R76). -/
def tidField (w : Word) : BitVec 2 := w.extractLsb' 0 2

/-- CHSEL, bits 15:8 of formats TC, P and D (R74 to R76). -/
def chselField (w : Word) : BitVec 8 := w.extractLsb' 8 8

/-- DIR, bits 3:2 of format TC (R74). -/
def dirField (w : Word) : BitVec 2 := w.extractLsb' 2 2

/-- The reserved bits of format Z (R71). -/
def mbzZ : Word := 0x00FFFFFF#32
/-- The reserved bits of format B (R72). -/
def mbzB : Word := 0x00FFFFFE#32
/-- The reserved bits of format T (R73). -/
def mbzT : Word := 0x00FFFFFC#32
/-- The reserved bits of format TC (R74). -/
def mbzTC : Word := 0x00FF0080#32
/-- The reserved bits of format P (R75). -/
def mbzP : Word := 0x00FF00E0#32
/-- The reserved bits of format D (R76). -/
def mbzD : Word := 0x00FF00FC#32

/-- R79 (b): the instruction if every reserved bit of `w` is 0, E_FIELD's reason otherwise. -/
def ifClear (w mbz : Word) (i : Instr) : Except DecodeError Instr :=
  if w &&& mbz = 0#32 then .ok i else .error .field

/-- R79 (b), (c): the instruction if it is well-formed and every reserved bit is 0. -/
def ifWellFormed (w mbz : Word) (i : Instr) : Except DecodeError Instr :=
  if i.wellFormed then ifClear w mbz i else .error .field

/-- The command a word stands for (R70, Table R78). -/
def decode (w : Word) : Except DecodeError Instr :=
  match (opField w).toNat with
  | 0x01 => ifClear w mbzZ .ckdrv
  | 0x02 => ifClear w mbzZ .ckws
  | 0x03 => ifClear w mbzZ .ckaux
  | 0x04 => ifClear w mbzZ .ckcfg
  | 0x10 => ifClear w mbzZ .stcalc
  | 0x11 => ifClear w mbzZ .stcfg
  | 0x12 => ifClear w mbzZ .stget
  | 0x13 => ifClear w mbzZ .stset
  | 0x14 => ifClear w mbzZ .sten
  | 0x15 => ifClear w mbzZ .stdis
  | 0x16 => ifClear w mbzB (.stcb (w.getLsbD 0))
  | 0x17 => ifClear w mbzB (.std2t (w.getLsbD 0))
  | 0x20 => ifClear w mbzZ .tmpsc
  | 0x21 => ifWellFormed w mbzTC
      (.tmcfg (chselField w) (w.getLsbD 6) (w.getLsbD 5) (w.getLsbD 4) (dirField w) (tidField w))
  | 0x22 => ifClear w mbzT (.tmen (tidField w))
  | 0x23 => ifClear w mbzT (.tmdis (tidField w))
  | 0x24 => ifClear w mbzT (.tmrst (tidField w))
  | 0x25 => ifClear w mbzT (.tmirq (tidField w))
  | 0x26 => ifClear w mbzT (.tmclr (tidField w))
  | 0x27 => ifClear w mbzT (.tmack (tidField w))
  | 0x30 => ifClear w mbzZ .pwccr
  | 0x31 => ifClear w mbzP
      (.pwcfg (chselField w) (w.getLsbD 4) (w.getLsbD 3) (w.getLsbD 2) (tidField w))
  | 0x32 => ifClear w mbzD (.pwduty (chselField w) (tidField w))
  | _ => .error .badOp

/-- The 32-bit command that the table's numbering `(nbits, w)` names: the bits above `nbits` are 0. There is one word
per command, so the table's bit 0 is the command's bit 0 (R70). -/
def commandWord (nbits w : Nat) : Word := BitVec.ofNat 32 (w % 2 ^ nbits)

/-- The instruction the decoder reads from the table's numbering of a word. -/
def decodeTableWord (nbits w : Nat) : Option Instr :=
  match decode (commandWord nbits w) with
  | .ok i => some i
  | .error _ => none

/-! ### The encoder -/

/-- Format Z (R71). -/
def encodeZ (op : BitVec 8) : Word := op ++ 0#24

/-- Format B (R72). -/
def encodeB (op : BitVec 8) (b : Bool) : Word := op ++ 0#23 ++ BitVec.ofBool b

/-- Format T (R73). -/
def encodeT (op : BitVec 8) (tid : BitVec 2) : Word := op ++ 0#22 ++ tid

/-- Format TC (R74). -/
def encodeTC (op chsel : BitVec 8) (ie opm arpe : Bool) (dir tid : BitVec 2) : Word :=
  op ++ 0#8 ++ chsel ++ 0#1 ++ BitVec.ofBool ie ++ BitVec.ofBool opm ++ BitVec.ofBool arpe ++ dir ++ tid

/-- Format P (R75). -/
def encodeP (op chsel : BitVec 8) (pe pol inv : Bool) (tid : BitVec 2) : Word :=
  op ++ 0#8 ++ chsel ++ 0#3 ++ BitVec.ofBool pe ++ BitVec.ofBool pol ++ BitVec.ofBool inv ++ tid

/-- Format D (R76). -/
def encodeD (op chsel : BitVec 8) (tid : BitVec 2) : Word := op ++ 0#8 ++ chsel ++ 0#6 ++ tid

/-- The word of a command (Table R78). -/
def encode : Instr → Word
  | .ckdrv => encodeZ 0x01#8
  | .ckws => encodeZ 0x02#8
  | .ckaux => encodeZ 0x03#8
  | .ckcfg => encodeZ 0x04#8
  | .stcalc => encodeZ 0x10#8
  | .stcfg => encodeZ 0x11#8
  | .stget => encodeZ 0x12#8
  | .stset => encodeZ 0x13#8
  | .sten => encodeZ 0x14#8
  | .stdis => encodeZ 0x15#8
  | .stcb en => encodeB 0x16#8 en
  | .std2t unit => encodeB 0x17#8 unit
  | .tmpsc => encodeZ 0x20#8
  | .tmcfg chsel ie opm arpe dir tid => encodeTC 0x21#8 chsel ie opm arpe dir tid
  | .tmen tid => encodeT 0x22#8 tid
  | .tmdis tid => encodeT 0x23#8 tid
  | .tmrst tid => encodeT 0x24#8 tid
  | .tmirq tid => encodeT 0x25#8 tid
  | .tmclr tid => encodeT 0x26#8 tid
  | .tmack tid => encodeT 0x27#8 tid
  | .pwccr => encodeZ 0x30#8
  | .pwcfg chsel pe pol inv tid => encodeP 0x31#8 chsel pe pol inv tid
  | .pwduty chsel tid => encodeD 0x32#8 chsel tid

end Sys2Proof
end

