-- ==== Sys2Proof/Machine/Clock.lean ====
section
/-!
DEFINITION. The clock family: CKDRV, CKWS, CKAUX, CKCFG (spec/40_clock.md). The phases CKCFG starts are in
Machine/Sequencer.lean.
-/

namespace Sys2Proof.Machine

/-- CKDRV (R98): the four frequencies of the request to R0..R3, its validity to CKFLAGS. -/
def execCkdrv (s : State) : Host.Outcome State Fault Refusal :=
  let c := s.clkreq
  .next ((s.setRes ⟨lowWord (fCore s.cfg c), lowWord (fAhb s.cfg c), lowWord (fApb1 s.cfg c), lowWord (fApb2 s.cfg c)⟩).setCkflags
    (ckflagsOf s.cfg c s.flreq))

/-- CKWS (R99). -/
def execCkws (s : State) : Host.Outcome State Fault Refusal :=
  .next (setR0 (lowWord (wsReq s.cfg s.ops.a0.toNat)) s)

/-- CKAUX (R100). -/
def execCkaux (s : State) : Host.Outcome State Fault Refusal :=
  let c := s.clkreq
  if reqSw c = 3#2 then .next (setR01 0#32 0#32 s)
  else
    .next (setR01 (lowWord (fApb2 s.cfg c / adcDiv s.cfg (reqAdcpre c)))
      (lowWord (usbClock s.cfg (reqUsbpre c) (fPll s.cfg c))) s)

/-- CKCFG (R101, R102): once between resets, for a valid request, start the sequencer. -/
def execCkcfg (s : State) : Host.Outcome State Fault Refusal :=
  if s.clkValid then refuse .clkDone s
  else if ckflagsOf s.cfg s.clkreq s.flreq ≠ 0#6 then refuse .clkInv s
  else .next (s.setSeq .flash)

end Sys2Proof.Machine
end

