-- ==== Sys2Proof/Machine/Pwm.lean ====
section
/-!
DEFINITION. The PWM family: PWCCR, PWCFG, PWDUTY (spec/43_pwm.md).
-/

namespace Sys2Proof.Machine

/-- PWCCR (R183): the bare compare function on A0 (signed) and A1. -/
def execPwccr (s : State) : Host.Outcome State Fault Refusal :=
  let d := dutyOperand s.ops.a0
  let dc := dutyClamp s.cfg d
  let w := s.cfg.fixed.arrW
  let a := clampTo w s.ops.a1
  .next (setR01 (lowWord (ccrOf s.cfg dc a))
    (clampReport (dutyClamped s.cfg d) (ccrClamped s.cfg dc a) (exceeds w s.ops.a1)) s)

/-- The clamped duty of the operand A0 (R181). -/
def dutyOf (s : State) : Nat := dutyClamp s.cfg (dutyOperand s.ops.a0)

/-- The compare value of the operand A0 against bank `t`'s ARR_PRE (R182, R186). -/
def compareOf (s : State) (t : TimId) : Half := toHalf (ccrOf s.cfg (dutyOf s) (s.tim.get t).arrPre.toNat)

/-- The CLAMP bits of a duty commit on bank `t` (R184, R185). -/
def dutyCommitClamp (s : State) (t : TimId) : BitVec 6 :=
  pwmClampBits (dutyClamped s.cfg (dutyOperand s.ops.a0)) (ccrClamped s.cfg (dutyOf s) (s.tim.get t).arrPre.toNat)

/-- PWCFG (R184). -/
def execPwcfg (chsel : BitVec 8) (pe pol inv : Bool) (tid : BitVec 2) (s : State) :
    Host.Outcome State Fault Refusal :=
  withBank tid s fun t =>
    withChannels chsel s fun m =>
      if !(s.tim.get t).cfgd then refuse .noTim s
      else
        let duty := BitVec.ofNat 7 (dutyOf s)
        .next (addClamp (dutyCommitClamp s t)
          (updChannels t m
            (fun ch => writeCompare (compareOf s t) pe
              { ch with inv := inv, pol := pol, pe := pe, duty := duty, cfgd := true }) s))

/-- PWDUTY (R185, R187): all selected channels or none; each with its own stored PE. -/
def execPwduty (chsel : BitVec 8) (tid : BitVec 2) (s : State) : Host.Outcome State Fault Refusal :=
  withBank tid s fun t =>
    withChannels chsel s fun m =>
      if !(s.tim.get t).cfgd then refuse .noTim s
      else if !selectedConfigured s t m then refuse .noPwm s
      else
        let duty := BitVec.ofNat 7 (dutyOf s)
        .next (addClamp (dutyCommitClamp s t)
          (updChannels t m (fun ch => writeCompare (compareOf s t) ch.pe { ch with duty := duty }) s))

end Sys2Proof.Machine
end

