-- ==== Sys2Proof/Machine/SysTick.lean ====
section
/-!
DEFINITION. The SysTick family: STCALC, STCFG, STGET, STSET, STEN, STDIS, STCB, STD2T (spec/41_systick.md). The tick event
is in Machine/Events.lean.
-/

namespace Sys2Proof.Machine

/-- STCALC (R121): the reload value of a period in microseconds, and whether it fits. -/
def execStcalc (s : State) : Host.Outcome State Fault Refusal :=
  if !s.clkValid then refuse .noClk s
  else
    let r := reloadOf s.freqs.core.toNat s.ops.a0.toNat
    .next (s.setRes { s.res with r0 := lowWord r, r1 := highWord s.cfg.fixed.dataW r, r2 := lowWord (bit (periodFits s.cfg r)) })

/-- STCFG (R124): program the period in core cycles and start, with TICK = 0. -/
def execStcfg (s : State) : Host.Outcome State Fault Refusal :=
  let p := s.ops.a0.toNat
  if !periodFits s.cfg p then refuse .stRange s
  else
    .next ((s.setSt
      { s.st with
        state := .running
        reload := BitVec.ofNat 24 p
        load := BitVec.ofNat 24 (p - s.cfg.stLoadBias)
        enable := true
        tickint := true
        clksrc := true }).setTick 0#64)

/-- STGET (R125): an atomic snapshot of TICK. -/
def execStget (s : State) : Host.Outcome State Fault Refusal :=
  .next (setR01 (tickLo s) (tickHi s) s)

/-- STSET (R128): overwrite TICK with A1 ++ A0. -/
def execStset (s : State) : Host.Outcome State Fault Refusal :=
  .next (writeTick (s.ops.a1 ++ s.ops.a0) s)

/-- STEN (R126). -/
def execSten (s : State) : Host.Outcome State Fault Refusal :=
  match s.st.state with
  | .unconfigured => refuse .stState s
  | .running => .next (setRunState .running true s)
  | .stopped => .next (setRunState .running true s)

/-- STDIS (R127): accepted in every state, with an effect in Running only. -/
def execStdis (s : State) : Host.Outcome State Fault Refusal :=
  match s.st.state with
  | .unconfigured => .next s
  | .running => .next (setRunState .stopped false s)
  | .stopped => .next s

/-- STCB (R129). -/
def execStcb (en : Bool) (s : State) : Host.Outcome State Fault Refusal :=
  .next (s.setSt { s.st with cbEn := en })

/-- STD2T (R130): the least number of whole ticks that lasts at least the duration. -/
def execStd2t (ms : Bool) (s : State) : Host.Outcome State Fault Refusal :=
  if !s.clkValid then refuse .noClk s
  else if s.st.state = .unconfigured then refuse .stState s
  else .next (setR01Wide (ticksOf ms s.ops.a0.toNat s.freqs.core.toNat s.st.reload.toNat) s)

end Sys2Proof.Machine
end

