-- ==== Sys2Proof/Machine/Timer.lean ====
section
/-!
DEFINITION. The timer family: TMPSC, TMCFG, TMEN, TMDIS, TMRST, TMIRQ, TMCLR, TMACK (spec/42_timer.md). The update event is
in Machine/Events.lean.
-/

namespace Sys2Proof.Machine

/-- TMPSC (R153): the bare prescaler function on A0, A1, A2. -/
def execTmpsc (s : State) : Host.Outcome State Fault Refusal :=
  if s.ops.a1 = 0#32 then refuse .div0 s
  else
    let w := s.cfg.fixed.arrW
    let r := pscOf s.cfg s.ops.a0.toNat s.ops.a1.toNat (clampTo w s.ops.a2)
    .next (setR01 (lowWord r.value) (clampReport r.lo r.hi (exceeds w s.ops.a2)) s)

/-- The TIM[t] an accepted TMCFG leaves (Pseudocode R154): EN and UIF stay, ARR_ACT follows only with ARPE = 0. -/
def configuredTimer (m : BitVec 4) (ie opm arpe : Bool) (dir : Dir) (freq : Word) (psc arr cnt : Half) (b : Timer) : Timer :=
  { b with
    dir := dir
    arpe := arpe
    opm := opm
    uie := ie
    freq := freq
    psc := psc
    arrPre := arr
    arrAct := if arpe then b.arrAct else arr
    cntInit := cnt
    chsel := m
    cfgd := true }

/-- The writes of an accepted TMCFG (Pseudocode R154). -/
def tmcfgAccept (t : TimId) (m : BitVec 4) (ie opm arpe : Bool) (dir : Dir) (s : State) : State :=
  let arr := clampTo s.cfg.fixed.arrW s.ops.a1
  let cnt := clampTo s.cfg.fixed.cntW s.ops.a2
  let r := pscOf s.cfg (fTim s t) s.ops.a0.toNat arr
  let s1 := updTim t (configuredTimer m ie opm arpe dir s.ops.a0 (toHalf r.value) (toHalf arr) (toHalf cnt)) s
  let s2 := if ie then s1.setNvicEn (s.nvicEn.set t true) else s1
  addClamp (timerClampBits r.lo r.hi (exceeds s.cfg.fixed.arrW s.ops.a1) (exceeds s.cfg.fixed.cntW s.ops.a2)) s2

/-- TMCFG (R154): the checks in the rule's order, the reserved DIR first (R202, C12). -/
def execTmcfg (chsel : BitVec 8) (ie opm arpe : Bool) (dir tid : BitVec 2) (s : State) :
    Host.Outcome State Fault Refusal :=
  match dirOf dir with
  | none => refuse .field s
  | some d =>
    withBank tid s fun t =>
      withChannels chsel s fun m =>
        if !s.clkValid then refuse .noClk s
        else if s.ops.a0 = 0#32 then refuse .div0 s
        else .next (tmcfgAccept t m ie opm arpe d s)

/-- TMEN (R156). -/
def execTmen (tid : BitVec 2) (s : State) : Host.Outcome State Fault Refusal :=
  withBank tid s fun t =>
    if !(s.tim.get t).cfgd then refuse .noTim s
    else .next (updTim t (fun b => { b with en := true }) s)

/-- TMDIS (R157). -/
def execTmdis (tid : BitVec 2) (s : State) : Host.Outcome State Fault Refusal :=
  withBank tid s fun t => .next (updTim t (fun b => { b with en := false, cntInit := 0#16 }) s)

/-- TMRST (R158): the bank, its channels and NVIC_EN[t] to their reset values. -/
def execTmrst (tid : BitVec 2) (s : State) : Host.Outcome State Fault Refusal :=
  withBank tid s fun t =>
    .next (((updTim t (fun _ => Timer.reset) s).setPwm
      (s.pwm.set t (PerChan.tabulate fun _ => Channel.reset))).setNvicEn (s.nvicEn.set t false))

/-- TMIRQ (R159). -/
def execTmirq (tid : BitVec 2) (s : State) : Host.Outcome State Fault Refusal :=
  withBank tid s fun t => .next (setR0 (lowWord (bit (s.tim.get t).uif)) s)

/-- `TIM[t].UIF <- 0`, the single write that clears one flag (R160, R245). -/
def clearUif (t : TimId) (s : State) : State := updTim t (fun b => { b with uif := false }) s

/-- TMCLR (R160). -/
def execTmclr (tid : BitVec 2) (s : State) : Host.Outcome State Fault Refusal :=
  withBank tid s fun t => .next (clearUif t s)

/-- TMACK (R161): the same state change as TMCLR. -/
def execTmack (tid : BitVec 2) (s : State) : Host.Outcome State Fault Refusal :=
  withBank tid s fun t => .next (clearUif t s)

end Sys2Proof.Machine
end

