-- ==== Sys2Proof/Machine/Dispatch.lean ====
section
/-! DEFINITION. One arm per command of Table R78; each meaning stands in its family's file. -/

namespace Sys2Proof.Machine

def exec (i : Instr) (s : State) : Host.Outcome State Fault Refusal :=
  match i with
  | .ckdrv => Sys2Proof.Machine.execCkdrv s
  | .ckws => Sys2Proof.Machine.execCkws s
  | .ckaux => Sys2Proof.Machine.execCkaux s
  | .ckcfg => Sys2Proof.Machine.execCkcfg s
  | .stcalc => Sys2Proof.Machine.execStcalc s
  | .stcfg => Sys2Proof.Machine.execStcfg s
  | .stget => Sys2Proof.Machine.execStget s
  | .stset => Sys2Proof.Machine.execStset s
  | .sten => Sys2Proof.Machine.execSten s
  | .stdis => Sys2Proof.Machine.execStdis s
  | .stcb en => Sys2Proof.Machine.execStcb en s
  | .std2t unit => Sys2Proof.Machine.execStd2t unit s
  | .tmpsc => Sys2Proof.Machine.execTmpsc s
  | .tmcfg chsel ie opm arpe dir tid => Sys2Proof.Machine.execTmcfg chsel ie opm arpe dir tid s
  | .tmen tid => Sys2Proof.Machine.execTmen tid s
  | .tmdis tid => Sys2Proof.Machine.execTmdis tid s
  | .tmrst tid => Sys2Proof.Machine.execTmrst tid s
  | .tmirq tid => Sys2Proof.Machine.execTmirq tid s
  | .tmclr tid => Sys2Proof.Machine.execTmclr tid s
  | .tmack tid => Sys2Proof.Machine.execTmack tid s
  | .pwccr => Sys2Proof.Machine.execPwccr s
  | .pwcfg chsel pe pol inv tid => Sys2Proof.Machine.execPwcfg chsel pe pol inv tid s
  | .pwduty chsel tid => Sys2Proof.Machine.execPwduty chsel tid s

end Sys2Proof.Machine
end

