-- ==== Sys2Proof/Machine/Window.lean ====
section
/-!
DEFINITION. The register window, Table R53 (spec/20_memory.md): the registers by name, their offsets and access classes, what
a read returns (R51; the views STATUS, TCTL, PWMCTL, DUTY of R20, R30, R32) and what a write to a register other than CMD
does (R52).
-/

namespace Sys2Proof.Machine

/-- The registers of a timer bank, at offsets 0x00 to 0x3C of the bank (Table R53). -/
inductive BankReg where
  | tctl | psc | arrPre | arrAct | cntInit | freq | pwmctl | duty
  | ccrPre (c : ChId)
  | ccrAct (c : ChId)
deriving DecidableEq, Repr

/-- The registers of the window (Table R53). -/
inductive Reg where
  | cmd | status | err | clamp
  | a0 | a1 | a2 | a3
  | r0 | r1 | r2 | r3
  | clkreq | flreq | ckflags
  | fCore | fAhb | fApb1 | fApb2
  | stReload | oStload | tickLo | tickHi
  | oFlash | oRcccr | oCfgr
  | bank (t : TimId) (r : BankReg)
deriving DecidableEq, Repr

/-- The register at bank offset 4·k, k = 0..15 (Table R53). -/
def bankRegAt (k : BitVec 4) : BankReg :=
  match k.toNat with
  | 0x0 => .tctl
  | 0x1 => .psc
  | 0x2 => .arrPre
  | 0x3 => .arrAct
  | 0x4 => .cntInit
  | 0x5 => .freq
  | 0x6 => .pwmctl
  | 0x7 => .duty
  | 0x8 => .ccrPre .c1
  | 0x9 => .ccrPre .c2
  | 0xA => .ccrPre .c3
  | 0xB => .ccrPre .c4
  | 0xC => .ccrAct .c1
  | 0xD => .ccrAct .c2
  | 0xE => .ccrAct .c3
  | _ => .ccrAct .c4

/-- The register at a word offset of the window; none for a reserved offset (Table R53). The low two bits of `off` play
no part: only aligned accesses reach a register (R56). -/
def regAt (off : BitVec 10) : Option Reg :=
  let k := off.extractLsb' 2 4
  match (off.extractLsb' 6 4).toNat with
  | 0x0 =>
    match k.toNat with
    | 0x0 => some .cmd
    | 0x1 => some .status
    | 0x2 => some .err
    | 0x3 => some .clamp
    | 0x4 => some .a0
    | 0x5 => some .a1
    | 0x6 => some .a2
    | 0x7 => some .a3
    | 0x8 => some .r0
    | 0x9 => some .r1
    | 0xA => some .r2
    | 0xB => some .r3
    | 0xC => some .clkreq
    | 0xD => some .flreq
    | 0xE => some .ckflags
    | _ => none
  | 0x1 =>
    match k.toNat with
    | 0x0 => some .fCore
    | 0x1 => some .fAhb
    | 0x2 => some .fApb1
    | 0x3 => some .fApb2
    | 0x4 => some .stReload
    | 0x5 => some .oStload
    | 0x6 => some .tickLo
    | 0x7 => some .tickHi
    | 0x8 => some .oFlash
    | 0x9 => some .oRcccr
    | 0xA => some .oCfgr
    | _ => none
  | 0x4 => some (.bank .t0 (bankRegAt k))
  | 0x5 => some (.bank .t1 (bankRegAt k))
  | 0x6 => some (.bank .t2 (bankRegAt k))
  | _ => none

/-- The offset of a register within its bank (Table R53). -/
def bankRegOffset : BankReg → BitVec 10
  | .tctl => 0x00
  | .psc => 0x04
  | .arrPre => 0x08
  | .arrAct => 0x0C
  | .cntInit => 0x10
  | .freq => 0x14
  | .pwmctl => 0x18
  | .duty => 0x1C
  | .ccrPre .c1 => 0x20
  | .ccrPre .c2 => 0x24
  | .ccrPre .c3 => 0x28
  | .ccrPre .c4 => 0x2C
  | .ccrAct .c1 => 0x30
  | .ccrAct .c2 => 0x34
  | .ccrAct .c3 => 0x38
  | .ccrAct .c4 => 0x3C

/-- The base of bank `t`: 0x100 + 0x40·t (R53). -/
def bankBase : TimId → BitVec 10
  | .t0 => 0x100
  | .t1 => 0x140
  | .t2 => 0x180

/-- The offset of a register (Table R53). -/
def regOffset : Reg → BitVec 10
  | .cmd => 0x000
  | .status => 0x004
  | .err => 0x008
  | .clamp => 0x00C
  | .a0 => 0x010
  | .a1 => 0x014
  | .a2 => 0x018
  | .a3 => 0x01C
  | .r0 => 0x020
  | .r1 => 0x024
  | .r2 => 0x028
  | .r3 => 0x02C
  | .clkreq => 0x030
  | .flreq => 0x034
  | .ckflags => 0x038
  | .fCore => 0x040
  | .fAhb => 0x044
  | .fApb1 => 0x048
  | .fApb2 => 0x04C
  | .stReload => 0x050
  | .oStload => 0x054
  | .tickLo => 0x058
  | .tickHi => 0x05C
  | .oFlash => 0x060
  | .oRcccr => 0x064
  | .oCfgr => 0x068
  | .bank t r => bankBase t + bankRegOffset r

/-! ### Reads (R51) -/

/-- STATUS (R20), assembled from the state and the inputs at the moment of the read. -/
def statusView (s : State) : Word :=
  0#5 ++ BitVec.ofBool s.st.clksrc ++ BitVec.ofBool s.st.tickint ++ BitVec.ofBool s.st.enable
    ++ 0#1 ++ BitVec.ofBool s.nvicEn.t2 ++ BitVec.ofBool s.nvicEn.t1 ++ BitVec.ofBool s.nvicEn.t0
    ++ 0#1 ++ BitVec.ofBool (timIrq s .t2) ++ BitVec.ofBool (timIrq s .t1) ++ BitVec.ofBool (timIrq s .t0)
    ++ s.inputs.sws ++ BitVec.ofBool s.inputs.pllRdy ++ BitVec.ofBool s.inputs.hseRdy
    ++ s.seq.code ++ 0#3 ++ BitVec.ofBool s.st.cbEn ++ s.st.state.code
    ++ BitVec.ofBool s.clkValid ++ BitVec.ofBool (busy s)

/-- TCTL[t] (R30). -/
def tctlView (b : Timer) : Word :=
  0#20 ++ b.chsel ++ BitVec.ofBool b.cfgd ++ BitVec.ofBool b.uif ++ BitVec.ofBool b.uie
    ++ BitVec.ofBool b.opm ++ BitVec.ofBool b.arpe ++ b.dir.code ++ BitVec.ofBool b.en

/-- The nibble CFGD ++ PE ++ POL ++ INV of a channel (R32). -/
def channelNibble (ch : Channel) : BitVec 4 :=
  BitVec.ofBool ch.cfgd ++ BitVec.ofBool ch.pe ++ BitVec.ofBool ch.pol ++ BitVec.ofBool ch.inv

/-- PWMCTL[t] (R32). -/
def pwmctlView (b : PerChan Channel) : Word :=
  0#16 ++ channelNibble b.c4 ++ channelNibble b.c3 ++ channelNibble b.c2 ++ channelNibble b.c1

/-- DUTY[t] (R32). -/
def dutyView (b : PerChan Channel) : Word :=
  0#1 ++ b.c4.duty ++ 0#1 ++ b.c3.duty ++ 0#1 ++ b.c2.duty ++ 0#1 ++ b.c1.duty

/-- A register of bank `t` as it reads (R29 to R32). -/
def readBankReg (s : State) (t : TimId) (r : BankReg) : Word :=
  let b := s.tim.get t
  match r with
  | .tctl => tctlView b
  | .psc => b.psc.setWidth 32
  | .arrPre => b.arrPre.setWidth 32
  | .arrAct => b.arrAct.setWidth 32
  | .cntInit => b.cntInit.setWidth 32
  | .freq => b.freq
  | .pwmctl => pwmctlView (s.pwm.get t)
  | .duty => dutyView (s.pwm.get t)
  | .ccrPre c => ((s.pwm.get t).get c).ccrPre.setWidth 32
  | .ccrAct c => ((s.pwm.get t).get c).ccrAct.setWidth 32

/-- A register as it reads; CMD reads 0, and upper bits a register does not use read 0 (R51, R53). -/
def readReg (s : State) : Reg → Word
  | .cmd => 0#32
  | .status => statusView s
  | .err => s.err.code.setWidth 32
  | .clamp => s.clamp.setWidth 32
  | .a0 => s.ops.a0
  | .a1 => s.ops.a1
  | .a2 => s.ops.a2
  | .a3 => s.ops.a3
  | .r0 => s.res.r0
  | .r1 => s.res.r1
  | .r2 => s.res.r2
  | .r3 => s.res.r3
  | .clkreq => s.clkreq
  | .flreq => s.flreq
  | .ckflags => s.ckflags.setWidth 32
  | .fCore => s.freqs.core
  | .fAhb => s.freqs.ahb
  | .fApb1 => s.freqs.apb1
  | .fApb2 => s.freqs.apb2
  | .stReload => s.st.reload.setWidth 32
  | .oStload => s.st.load.setWidth 32
  | .tickLo => tickLo s
  | .tickHi => tickHi s
  | .oFlash => s.img.flash
  | .oRcccr => s.img.rcccr
  | .oCfgr => s.img.cfgr
  | .bank t r => readBankReg s t r

/-- `RegRead(off)` (R51): a reserved offset reads 0; no read changes anything. -/
def regRead (s : State) (off : BitVec 10) : Word :=
  match regAt off with
  | none => 0#32
  | some r => readReg s r

/-! ### Writes (R52) -/

/-- The access classes of Table R53. -/
inductive AccessClass where
  /-- Write-only trigger: CMD. -/
  | wo
  /-- Read-write: A0..A3, CLKREQ, FLREQ. -/
  | rw
  /-- Write-clears: ERR. -/
  | wc
  /-- Write-one-to-clear: CLAMP. -/
  | w1c
  /-- Read-only. -/
  | ro
deriving DecidableEq, Repr

/-- The class of a register (Table R53). -/
def accessClass : Reg → AccessClass
  | .cmd => .wo
  | .a0 => .rw
  | .a1 => .rw
  | .a2 => .rw
  | .a3 => .rw
  | .clkreq => .rw
  | .flreq => .rw
  | .err => .wc
  | .clamp => .w1c
  | .status => .ro
  | .r0 => .ro
  | .r1 => .ro
  | .r2 => .ro
  | .r3 => .ro
  | .ckflags => .ro
  | .fCore => .ro
  | .fAhb => .ro
  | .fApb1 => .ro
  | .fApb2 => .ro
  | .stReload => .ro
  | .oStload => .ro
  | .tickLo => .ro
  | .tickHi => .ro
  | .oFlash => .ro
  | .oRcccr => .ro
  | .oCfgr => .ro
  | .bank _ _ => .ro

/-- A write of this class stalls while the sequencer is busy (R52, R113). -/
def stallable : AccessClass → Bool
  | .wo => true
  | .rw => true
  | .wc => false
  | .w1c => false
  | .ro => false

/-- A write to a register that holds something (R52): RW registers take `v` under their mask, ERR clears whatever `v` is,
CLAMP clears the bits written 1. Read-only registers ignore it; CMD, which executes a command, is the port's. -/
def writeReg (r : Reg) (v : Word) (s : State) : State :=
  match r with
  | .a0 => s.setOps { s.ops with a0 := v }
  | .a1 => s.setOps { s.ops with a1 := v }
  | .a2 => s.setOps { s.ops with a2 := v }
  | .a3 => s.setOps { s.ops with a3 := v }
  | .clkreq => s.setClkreq (v &&& clkreqMask)
  | .flreq => s.setFlreq (v &&& flreqMask)
  | .err => s.setErr .none
  | .clamp => s.setClamp (s.clamp &&& ~~~(v.extractLsb' 0 6))
  | .cmd => s
  | .status => s
  | .r0 => s
  | .r1 => s
  | .r2 => s
  | .r3 => s
  | .ckflags => s
  | .fCore => s
  | .fAhb => s
  | .fApb1 => s
  | .fApb2 => s
  | .stReload => s
  | .oStload => s
  | .tickLo => s
  | .tickHi => s
  | .oFlash => s
  | .oRcccr => s
  | .oCfgr => s
  | .bank _ _ => s

end Sys2Proof.Machine
end

