-- ==== Sys2Proof/Machine/Port.lean ====
section
/-!
DEFINITION. The host port (R50 to R52, R56, R113): where a command is fetched. A word written to CMD is decoded and executed
in the step of the write (R17, R70); an illegal word is refused with its code (R79).
-/

namespace Sys2Proof.Machine

/-- The code an illegal word is refused with (R79, Table R201). -/
def decodeErrCode : DecodeError → ErrCode
  | .badOp => .badOp
  | .field => .field

/-- Execute the command word `w` (R17, R70, R79). -/
def execWord (w : Word) (s : State) : Host.Outcome State Fault Refusal :=
  match decode w with
  | .ok i => exec i s
  | .error e => refuse (decodeErrCode e) s

/-- The port's answer of this step. -/
def respond (r : HostResp) (s : State) : State := s.setHost { s.host with resp := r }

/-- The offset an address has in the window; none outside it (R50, R54). -/
def windowOffset (cfg : Config) (addr : Word) : Option (BitVec 10) :=
  if addr.extractLsb' 10 22 = cfg.baseHi then some (addr.extractLsb' 0 10) else none

/-- The access is an aligned word access (R56). -/
def alignedWord (a : HostAccess) (off : BitVec 10) : Bool :=
  decide (a.size = .word) && decide (off.extractLsb' 0 2 = 0#2)

/-- The write class at an offset; an unlisted offset ignores writes, as a read-only register does (R52). -/
def writeClass (off : BitVec 10) : AccessClass :=
  match regAt off with
  | none => .ro
  | some r => accessClass r

/-- `RegWrite(off, v)` once it is not stalled (R52). -/
def regWrite (off : BitVec 10) (v : Word) (s : State) : Host.Outcome State Fault Refusal :=
  match regAt off with
  | none => .next s
  | some .cmd => execWord v s
  | some r => .next (writeReg r v s)

/-- A write to `a`'s register: held on the port while it stalls (R113), else performed. -/
def portWrite (a : HostAccess) (off : BitVec 10) (v : Word) (s : State) : Host.Outcome State Fault Refusal :=
  if busy s && stallable (writeClass off) then
    .next (s.setHost { s.host with port := some a, resp := .stalled })
  else regWrite off v (respond .done s)

/-- One access of the host (R50 to R52, R56). -/
def portAccess (a : HostAccess) (s : State) : Host.Outcome State Fault Refusal :=
  match windowOffset s.cfg a.addr with
  | none => .fault .outsideWindow
  | some off =>
    if alignedWord a off then
      match a.kind with
      | .read => .next (respond (.data (regRead s off)) s)
      | .write v => portWrite a off v s
    else .next (respond .busError s)

/-- A turn of the host: the write that stands stalled is tried again, else the next access of the queue is issued; a
host with nothing to issue does nothing (R50, R113). -/
def hostTurn (s : State) : Host.Outcome State Fault Refusal :=
  match s.host.port with
  | some a => portAccess a (s.setHost { s.host with port := none })
  | none =>
    match s.host.queue with
    | [] => .next s
    | a :: rest => portAccess a (s.setHost { s.host with queue := rest })

/-- An interrupt handler pre-empts the foreground thread, between two accesses (R13, R60): what the handler accesses comes
before all the host had still to issue, through the same port (R214). The engine sees nothing of it. -/
def enterHandler (l : List HostAccess) (s : State) : State := s.setHost { s.host with queue := l ++ s.host.queue }

/-- The host byte address of a register (R50). -/
def regAddr (cfg : Config) (r : Reg) : Word := cfg.baseHi ++ regOffset r

/-- `WR reg, v` (R83). -/
def writeAccess (cfg : Config) (r : Reg) (v : Word) : HostAccess := ⟨regAddr cfg r, .word, .write v⟩

/-- `RD reg` (R83). -/
def readAccess (cfg : Config) (r : Reg) : HostAccess := ⟨regAddr cfg r, .word, .read⟩

end Sys2Proof.Machine
end

