-- ==== Sys2Proof/Machine/Sequencer.lean ====
section
/-!
DEFINITION. The clock sequencer: phases FLASH to FREQ, one step each (R104 to R114, R117, spec/40_clock.md). Each phase
makes at most one image write, in one transaction (R64, R108, R243).
-/

namespace Sys2Proof.Machine

/-- The bits of CLKREQ that phase CFGR copies to the image (R108). -/
def cfgrBatchMask : Word := 0x007FFFF0#32

/-- `hse_on`, bit 16 of O_RCCCR (R25, R106). -/
def hseOnBit : Word := 0x00010000#32

/-- `pll_on`, bit 24 of O_RCCCR (R25, R109). -/
def pllOnBit : Word := 0x01000000#32

/-- The sequencer has a step: it is not IDLE and no hold is unmet (R104, R107, R110, R112). -/
def seqEnabled (s : State) : Bool :=
  match s.seq with
  | .idle => false
  | .hseWait => s.inputs.hseRdy
  | .pllWait => s.inputs.pllRdy
  | .swWait => s.inputs.sws == reqSw s.clkreq
  | .flash => true
  | .hseOn => true
  | .cfgr => true
  | .pllOn => true
  | .switch => true
  | .freq => true

/-- The step of the present phase, taken when it is enabled (R105 to R114). -/
def seqPhase (s : State) : State :=
  match s.seq with
  | .idle => s
  | .flash => (s.setImg { s.img with flash := s.flreq }).setSeq .hseOn
  | .hseOn => (s.setImg { s.img with rcccr := s.img.rcccr ||| hseOnBit }).setSeq .hseWait
  | .hseWait => s.setSeq .cfgr
  | .cfgr =>
    (s.setImg { s.img with cfgr := (s.clkreq &&& cfgrBatchMask) ||| (s.img.cfgr &&& 0x00000003#32) }).setSeq
      (if reqSw s.clkreq = 2#2 then .pllOn else .switch)
  | .pllOn => (s.setImg { s.img with rcccr := s.img.rcccr ||| pllOnBit }).setSeq .pllWait
  | .pllWait => s.setSeq .switch
  | .switch =>
    (s.setImg { s.img with cfgr := (s.img.cfgr &&& cfgrBatchMask) ||| (reqSw s.clkreq).setWidth 32 }).setSeq .swWait
  | .swWait => s.setSeq .freq
  | .freq =>
    let c := s.clkreq
    ((s.setFreqs ⟨lowWord (fCore s.cfg c), lowWord (fAhb s.cfg c), lowWord (fApb1 s.cfg c), lowWord (fApb2 s.cfg c)⟩).setClkValid
      true).setSeq .idle

/-- A turn of the sequencer: its phase if enabled; while IDLE or held it has no step and nothing changes (R104). -/
def seqStep (s : State) : State := if seqEnabled s then seqPhase s else s

end Sys2Proof.Machine
end

