-- ==== Sys2Proof/Machine/Schedule.lean ====
section
/-!
DEFINITION. Whose step it is (R13, R60, R210): the order of agents is plain data in State, so that a statement about every
state covers every order; with no turn listed the sequencer goes first where it is enabled and the host otherwise (log
entry 1).
-/

namespace Sys2Proof.Machine

/-- The outputs that last for one step only, put back at the start of each (R205, R51). -/
def quiet (s : State) : State :=
  (s.setHost { s.host with resp := .none }).setCb { s.cb with strobe := false }

/-- The agent of the next step. -/
def nextTurn (s : State) : Turn :=
  match s.turns with
  | [] => if seqEnabled s then .sequencer else .host
  | t :: _ => t

/-- The step of one agent. -/
def takeTurn (t : Turn) (s : State) : Host.Outcome State Fault Refusal :=
  match t with
  | .host => hostTurn s
  | .handler l => .next (enterHandler l s)
  | .sequencer => .next (seqStep s)
  | .tick => .next (tickEvent s)
  | .uev b => .next (updateEvent b s)
  | .inputs i => .next (s.setInputs i)
  | .rst => .next (resetEvent s)

/-- The state an agent finds at its turn: the turn is used up and the last step's outputs are gone. -/
def beginStep (s : State) : State := quiet (s.setTurns s.turns.tail)

/-- `s` with a write of `w` to CMD as the next access of the host and the host as the next agent. A write to CMD runs at
once only while SEQ = 0 (R113), so SEQ is put to IDLE; a write that stood stalled goes back to the queue (log entry 2). -/
def withCommand (s : State) (w : Word) : State :=
  ((s.setSeq .idle).setHost
    { s.host with
      port := none
      queue := writeAccess s.cfg .cmd w :: (s.host.port.toList ++ s.host.queue) }).setTurns (.host :: s.turns)

end Sys2Proof.Machine
end

