-- ==== Sys2Proof/Machine/Step.lean ====
section
/-! DEFINITION. The step: one agent's turn (R13, R60). And the placing of a command where the next step fetches it. -/

namespace Sys2Proof.Machine

/-- One step of the engine: the next agent's turn. -/
def step (s : State) : Host.Outcome State Fault Refusal := takeTurn (nextTurn s) (beginStep s)

/-- `s` with the command that the table numbers `(nbits, w)` where the next step fetches it: on the host port, as a
write to CMD. -/
def State.withFetchWord (s : State) (nbits w : Nat) : State := withCommand s (commandWord nbits w)

end Sys2Proof.Machine
end

