-- ==== Sys2Proof/Machine/Pseudo.lean ====
section
/-!
DEFINITION. The pseudo-instructions of Table R84 (spec/30_encoding.md): fixed procedures of the HOST, made of accesses to the
window. Their loops have no time-out (R253), so each runs under fuel: `none` means that the fuel ran out, not an error.
While an access waits, the other agents take the turns that State lists, interrupt handlers among them, whose accesses then
come between the procedure's own (R131, R246); and the default order after those.
-/

namespace Sys2Proof.Machine

/-- The access was answered (R51, R52, R56): it is neither waiting nor stalled. -/
def answered : HostResp → Bool
  | .none => false
  | .stalled => false
  | .data _ => true
  | .done => true
  | .busError => true

/-- The host issues one more access, after those it has still to make. -/
def issue (a : HostAccess) (s : State) : State := s.setHost { s.host with queue := s.host.queue ++ [a] }

/-- Step until the procedure's access, the last one the host has, is answered: a handler that comes first runs first (log
entry 23). -/
def await : Nat → State → Option (HostResp × State)
  | 0, _ => none
  | fuel + 1, s =>
    match step s with
    | .next t =>
      if t.host.queue.isEmpty && t.host.port.isNone && answered t.host.resp then some (t.host.resp, t)
      else await fuel t
    | .fault _ => none
    | .refused _ => none

/-- `WR reg, v` (R83). -/
def hostWrite (fuel : Nat) (r : Reg) (v : Word) (s : State) : Option State :=
  (await fuel (issue (writeAccess s.cfg r v) s)).map Prod.snd

/-- `RD reg -> name` (R83). -/
def hostRead (fuel : Nat) (r : Reg) (s : State) : Option (Word × State) :=
  match await fuel (issue (readAccess s.cfg r) s) with
  | some (.data v, t) => some (v, t)
  | _ => none

/-- A command line: `WR CMD, word` (R83). -/
def hostCommand (fuel : Nat) (i : Instr) (s : State) : Option State := hostWrite fuel .cmd (encode i) s

/-- `loop: RD STATUS -> s; if s[0] = 1 goto loop`. -/
def pollNotBusy (fuel : Nat) : Nat → State → Option State
  | 0, _ => none
  | n + 1, s => do
    let (v, t) ← hostRead fuel .status s
    if v.getLsbD 0 then pollNotBusy fuel n t else some t

/-- `CONFIGURE_CLOCK clkreq, flreq`. -/
def configureClock (fuel : Nat) (clkreq flreq : Word) (s : State) : Option State := do
  let s1 ← hostWrite fuel .clkreq clkreq s
  let s2 ← hostWrite fuel .flreq flreq s1
  let s3 ← hostCommand fuel .ckcfg s2
  pollNotBusy fuel fuel s3

/-- `SYSTICK_PERIOD_US p`: nothing more is issued where the period does not fit. -/
def systickPeriodUs (fuel : Nat) (p : Word) (s : State) : Option State := do
  let s1 ← hostWrite fuel .a0 p s
  let s2 ← hostCommand fuel .stcalc s1
  let (fits, s3) ← hostRead fuel .r2 s2
  let (r, s4) ← hostRead fuel .r0 s3
  if fits = 1#32 then do
    let s5 ← hostWrite fuel .a0 r s4
    hostCommand fuel .stcfg s5
  else some s4

/-- A 64-bit result of R1 ++ R0, by two reads (R77). -/
def readR01 (fuel : Nat) (s : State) : Option (BitVec 64 × State) := do
  let (lo, s1) ← hostRead fuel .r0 s
  let (hi, s2) ← hostRead fuel .r1 s1
  some (hi ++ lo, s2)

/-- `GET_TICKS -> lo, hi`. -/
def getTicks (fuel : Nat) (s : State) : Option (BitVec 64 × State) := do
  let s1 ← hostCommand fuel .stget s
  readR01 fuel s1

/-- `SET_TICKS lo, hi`. -/
def setTicks (fuel : Nat) (lo hi : Word) (s : State) : Option State := do
  let s1 ← hostWrite fuel .a0 lo s
  let s2 ← hostWrite fuel .a1 hi s1
  hostCommand fuel .stset s2

/-- The spin of DELAY_US and DELAY_MS: it ends at the first reading with `(now − start) mod 2^TICK_W ≥ n` (R84,
R131). -/
def delayLoop (fuel : Nat) (start n : BitVec 64) : Nat → State → Option State
  | 0, _ => none
  | k + 1, s => do
    let (now, t) ← getTicks fuel s
    if (tickWrap s.cfg (now - start)).toNat < n.toNat then delayLoop fuel start n k t else some t

/-- `DELAY_US d` (`ms` false) and `DELAY_MS d` (`ms` true). -/
def delay (fuel : Nat) (ms : Bool) (d : Word) (s : State) : Option State := do
  let s1 ← hostWrite fuel .a0 d s
  let s2 ← hostCommand fuel (.std2t ms) s1
  let (n, s3) ← readR01 fuel s2
  let (start, s4) ← getTicks fuel s3
  delayLoop fuel start n fuel s4

/-- `loop: TMIRQ tid=t; RD R0 -> f; if f = 0 goto loop`. -/
def pollUpdateFlag (fuel : Nat) (tid : BitVec 2) : Nat → State → Option State
  | 0, _ => none
  | k + 1, s => do
    let s1 ← hostCommand fuel (.tmirq tid) s
    let (f, t) ← hostRead fuel .r0 s1
    if f = 0#32 then pollUpdateFlag fuel tid k t else some t

/-- `TDELAY t, d`: `d` flags seen and cleared (R162). -/
def timerDelay (fuel : Nat) (tid : BitVec 2) : Nat → State → Option State
  | 0, s => some s
  | d + 1, s => do
    let s1 ← pollUpdateFlag fuel tid fuel s
    let s2 ← hostCommand fuel (.tmclr tid) s1
    timerDelay fuel tid d s2

/-- `CONFIGURE_TIMER`. -/
def configureTimer (fuel : Nat) (freq arr cnt : Word) (chsel : BitVec 8) (ie opm arpe : Bool) (dir tid : BitVec 2)
    (s : State) : Option State := do
  let s1 ← hostWrite fuel .a0 freq s
  let s2 ← hostWrite fuel .a1 arr s1
  let s3 ← hostWrite fuel .a2 cnt s2
  hostCommand fuel (.tmcfg chsel ie opm arpe dir tid) s3

/-- `CONFIGURE_PWM`. -/
def configurePwm (fuel : Nat) (duty : Word) (chsel : BitVec 8) (pe pol inv : Bool) (tid : BitVec 2) (s : State) :
    Option State := do
  let s1 ← hostWrite fuel .a0 duty s
  hostCommand fuel (.pwcfg chsel pe pol inv tid) s1

/-- `SET_DUTY t, chsel, duty`. -/
def setDuty (fuel : Nat) (tid : BitVec 2) (chsel : BitVec 8) (duty : Word) (s : State) : Option State := do
  let s1 ← hostWrite fuel .a0 duty s
  hostCommand fuel (.pwduty chsel tid) s1

end Sys2Proof.Machine
end

