-- ==== Sys2Proof/Machine/Run.lean ====
section
/-!
DEFINITION. A run, and the one state it ends in (R254, D49; log entry 24). The engine has no halt: a run is a finite list of
host accesses, an interrupt handler's among them (R214), with events and input changes between, from the reset state.
-/

namespace Sys2Proof.Machine

/-- Where a run starts: the reset state (Table R36), no access stalled, with the parameters, the inputs, the host's accesses
and the turns that the outside gives it (R35, R254). -/
def launch (cfg : Config) (i : ClkInputs) (accesses : List HostAccess) (turns : List Turn) : State :=
  { State.reset with
    cfg := cfg
    inputs := i
    host := ⟨accesses, none, .none⟩
    turns := turns }

/-- What the host accesses on account of a turn: a handler, which is the host too (R214), brings its own accesses. -/
def turnAccesses : Turn → List HostAccess
  | .handler l => l
  | .host => []
  | .sequencer => []
  | .tick => []
  | .uev _ => []
  | .inputs _ => []
  | .rst => []

/-- Every access the host has still to complete: the stalled one, its own, and those of the handlers still listed. -/
def accessesLeft (s : State) : List HostAccess :=
  s.host.port.toList ++ s.host.queue ++ s.turns.flatMap turnAccesses

/-- A run is over: the host has made its last access and SEQ = 0 (R254). -/
abbrev runOver (s : State) : Prop := accessesLeft s = [] ∧ s.seq = .idle

/-- The events, which are no part of a run once the last access is made: `tick` and `uev t` (R254). -/
def isEvent : Turn → Bool
  | .tick => true
  | .uev _ => true
  | .host => false
  | .handler _ => false
  | .sequencer => false
  | .inputs _ => false
  | .rst => false

/-- `s` with no turn listed that is no part of the run: after the last access the sequencer and the inputs go on until
SEQ = 0, and events do not count (R254). -/
def withinRun (s : State) : State :=
  if accessesLeft s = [] then s.setTurns (s.turns.filter (!isEvent ·)) else s

/-- The state at the first point where the run from `s` is over, if it gets there in `n` steps; none where the fuel runs out
first, where an access faults, or where the next turn is reset, which no run holds (R254). -/
def runEnd : Nat → State → Option State
  | 0, s => if runOver s then some s else none
  | n + 1, s =>
    if runOver s then some s
    else if nextTurn (withinRun s) = .rst then none
    else
      match step (withinRun s) with
      | .next t => runEnd n t
      | .fault _ => none
      | .refused _ => none

/-- The architectural state in `s` (Table R36): the inputs, the accesses and the occurrence of events are none (R35), nor are
the model's own turns and its record of the output `tick_cb`. The parameters stay. -/
def architectural (s : State) : State :=
  { s with
    inputs := State.reset.inputs
    host := State.reset.host
    turns := State.reset.turns
    cb := State.reset.cb }

/-- `t` is the end state of the run from `s` (R254): the architectural state at the first point where the run is over. A hang
has none. -/
def IsEndState (s t : State) : Prop := ∃ n u, runEnd n s = some u ∧ architectural u = t

end Sys2Proof.Machine
end

