-- ==== Sys2Proof/Safety.lean ====
section
/-!
DEFINITION. What a safe run is, in the terms the statements use: when the sequencer hangs (R104, R213), and the invariant of
the engine: the reserved bits stay 0 (R21, R22, R25), the cached frequencies stay those of a valid request (R24, R95, R97),
the images are as far as the sequence has come (R105 to R115, R240), the time base's images follow its state (R27, R123), the
preload pairs differ only under their enable bit (R34), and a bank or channel that was never configured is at reset (R29,
R31). (When a run is over, and the state it ends in, stand in Machine/Run.lean.)
-/

namespace Sys2Proof.Machine

/-- The sequencer waits in a hold that is not met; a hang is a holding whose input never comes (R104, R213). -/
def holding (s : State) : Prop :=
  (s.seq = .hseWait ∨ s.seq = .pllWait ∨ s.seq = .swWait) ∧ seqEnabled s = false

/-- Only the named bits of the registers and images are ever 1 (R21, R22, R25, R53). -/
structure MasksInv (s : State) : Prop where
  clkreq : s.clkreq &&& ~~~clkreqMask = 0#32
  flreq : s.flreq &&& ~~~flreqMask = 0#32
  flash : s.img.flash &&& ~~~flreqMask = 0#32
  rcccr : s.img.rcccr &&& ~~~(hseOnBit ||| pllOnBit) = 0#32
  cfgr : s.img.cfgr &&& ~~~clkreqMask = 0#32

/-- The enable bits a completed sequence has set for request `c` (R106, R109, R117). -/
def enablesFor (c : Word) : Word := if reqSw c = 2#2 then hseOnBit ||| pllOnBit else hseOnBit

/-- What the images hold in each phase, and before any sequence (R105 to R112, R115, R117): in particular the flash image
is written before the source is switched (R240). -/
def sequenceImages (s : State) : Prop :=
  match s.seq with
  | .idle => s.clkValid = false → s.img = ⟨0#32, 0#32, 0#32⟩
  | .flash => s.img = ⟨0#32, 0#32, 0#32⟩
  | .hseOn => s.img = ⟨s.flreq, 0#32, 0#32⟩
  | .hseWait => s.img = ⟨s.flreq, hseOnBit, 0#32⟩
  | .cfgr => s.img = ⟨s.flreq, hseOnBit, 0#32⟩
  | .pllOn => reqSw s.clkreq = 2#2 ∧ s.img = ⟨s.flreq, hseOnBit, s.clkreq &&& cfgrBatchMask⟩
  | .pllWait => reqSw s.clkreq = 2#2 ∧ s.img = ⟨s.flreq, hseOnBit ||| pllOnBit, s.clkreq &&& cfgrBatchMask⟩
  | .switch => s.img = ⟨s.flreq, enablesFor s.clkreq, s.clkreq &&& cfgrBatchMask⟩
  | .swWait => s.img = ⟨s.flreq, enablesFor s.clkreq, s.clkreq⟩
  | .freq => s.img = ⟨s.flreq, enablesFor s.clkreq, s.clkreq⟩

/-- The clock: nothing cached before phase FREQ; a valid request while the sequence runs; and once it has run, the cached
frequencies are those of the image, within the rated limits, with the wait-states they require (R24, R95 to R97, R102,
R114, R240, R242). -/
structure ClockInv (s : State) : Prop where
  notYet : s.clkValid = false → s.freqs = ⟨0#32, 0#32, 0#32, 0#32⟩
  running : s.seq ≠ .idle → s.clkValid = false ∧ ckflagsOf s.cfg s.clkreq s.flreq = 0#6
  images : sequenceImages s
  cached : s.clkValid = true →
    s.freqs.core.toNat = fCore s.cfg s.img.cfgr ∧ s.freqs.ahb.toNat = fAhb s.cfg s.img.cfgr ∧
    s.freqs.apb1.toNat = fApb1 s.cfg s.img.cfgr ∧ s.freqs.apb2.toNat = fApb2 s.cfg s.img.cfgr
  rated : s.clkValid = true →
    s.freqs.core.toNat ≤ 72000000 ∧ s.freqs.ahb.toNat ≤ 72000000 ∧
    s.freqs.apb1.toNat ≤ 36000000 ∧ s.freqs.apb2.toNat ≤ 72000000
  waitStates : s.clkValid = true → (reqLat s.img.flash).toNat = wsReq s.cfg s.freqs.core.toNat

/-- The time base: its images follow ST_STATE, the period fits exactly when it is configured, and TICK has TICK_W bits
(R27, R28, R122, R123). -/
structure SysTickInv (s : State) : Prop where
  unconfigured : s.st.state = .unconfigured →
    s.st.reload = 0#24 ∧ s.st.load = 0#24 ∧ s.st.enable = false ∧ s.st.tickint = false ∧ s.st.clksrc = false
  configured : s.st.state ≠ .unconfigured →
    periodFits s.cfg s.st.reload.toNat = true ∧ s.st.load.toNat = s.st.reload.toNat - s.cfg.stLoadBias ∧
    s.st.tickint = true ∧ s.st.clksrc = true
  enable : s.st.enable = true ↔ s.st.state = .running
  width : s.cfg.tickW = .w32 → s.tick.toNat < 2 ^ 32

/-- A timer bank (R29, R33, R34, R154, R156, R158). -/
structure BankInv (s : State) (t : TimId) : Prop where
  unbuffered : (s.tim.get t).arpe = false → (s.tim.get t).arrAct = (s.tim.get t).arrPre
  interrupt : (s.tim.get t).uie = true → s.nvicEn.get t = true
  configured : (s.tim.get t).cfgd = true →
    s.clkValid = true ∧ (s.tim.get t).freq ≠ 0#32 ∧ (s.tim.get t).chsel ≠ 0#4
  fresh : (s.tim.get t).cfgd = false →
    s.tim.get t = { Timer.reset with uif := (s.tim.get t).uif } ∧ s.nvicEn.get t = false

/-- A PWM channel (R31, R34, R181, R184). -/
structure ChannelInv (s : State) (t : TimId) (c : ChId) : Prop where
  duty : ((s.pwm.get t).get c).duty.toNat ≤ 100
  unbuffered : ((s.pwm.get t).get c).pe = false → ((s.pwm.get t).get c).ccrAct = ((s.pwm.get t).get c).ccrPre
  configured : ((s.pwm.get t).get c).cfgd = true → (s.tim.get t).cfgd = true
  fresh : ((s.pwm.get t).get c).cfgd = false → (s.pwm.get t).get c = Channel.reset

/-- The invariant of the engine. -/
structure EngineInv (s : State) : Prop where
  parameters : s.cfg.wf
  masks : MasksInv s
  clock : ClockInv s
  sysTick : SysTickInv s
  bank : ∀ t, BankInv s t
  channel : ∀ t c, ChannelInv s t c

end Sys2Proof.Machine
end

