-- ==== Sys2Proof/Certificates/Slice0/Obligations.lean ====
section
/-!
DEFINITION. The statements for the provers, from the numbered rules of spec/. The terms they use that the model does not
have (Table R78 and the checks of R202 written out again, Table R37's rows, who issues what) stand first, in
`Sys2Proof.Claims`.
-/

namespace Sys2Proof.Claims

open Sys2Proof.Machine

/-! ### Terms -/

/-- The next step is the host's, nothing stands stalled, and `a` is what it issues. -/
structure HostIssues (s : State) (a : HostAccess) (rest : List HostAccess) : Prop where
  turn : nextTurn s = .host
  port : s.host.port = none
  queue : s.host.queue = a :: rest

/-- `s` with its turn used up, the host left with `rest` and `port`, and the port's answer `r`; the engine is untouched. -/
def afterAccess (s : State) (rest : List HostAccess) (port : Option HostAccess) (r : HostResp) : State :=
  ((s.setTurns s.turns.tail).setHost ⟨rest, port, r⟩).setCb ⟨false, s.cb.count⟩

/-- `s` as an agent other than the host finds it at its turn; the engine is untouched. -/
def atTurn (s : State) : State := afterAccess s s.host.queue s.host.port .none

/-- The next step executes command `i`: the host's access, stalled or issued now, writes its word to CMD at SEQ = 0. -/
def RunsCommand (s : State) (i : Instr) : Prop :=
  nextTurn s = .host ∧ s.seq = .idle ∧ ∃ w, decode w = .ok i ∧
    (s.host.port = some (writeAccess s.cfg .cmd w) ∨
      (s.host.port = none ∧ ∃ rest, s.host.queue = writeAccess s.cfg .cmd w :: rest))

/-- OP and reserved-bit mask of the 23 rows of Table R78. -/
def opcodeTable : List (Nat × Word) :=
  [(0x01, 0x00FFFFFF#32), (0x02, 0x00FFFFFF#32), (0x03, 0x00FFFFFF#32), (0x04, 0x00FFFFFF#32),
   (0x10, 0x00FFFFFF#32), (0x11, 0x00FFFFFF#32), (0x12, 0x00FFFFFF#32), (0x13, 0x00FFFFFF#32),
   (0x14, 0x00FFFFFF#32), (0x15, 0x00FFFFFF#32), (0x16, 0x00FFFFFE#32), (0x17, 0x00FFFFFE#32)] ++
  [(0x20, 0x00FFFFFF#32), (0x21, 0x00FF0080#32), (0x22, 0x00FFFFFC#32), (0x23, 0x00FFFFFC#32),
   (0x24, 0x00FFFFFC#32), (0x25, 0x00FFFFFC#32), (0x26, 0x00FFFFFC#32), (0x27, 0x00FFFFFC#32),
   (0x30, 0x00FFFFFF#32), (0x31, 0x00FF00E0#32), (0x32, 0x00FF00FC#32)]

/-- The reserved bits of the row that `w`'s OP selects; none where no row has that OP. -/
def reservedOf (w : Word) : Option Word := opcodeTable.lookup (w.toNat / 2 ^ 24)

/-- Number of a channel, 1 to 4. -/
def channelNo : ChId → Nat
  | .c1 => 1
  | .c2 => 2
  | .c3 => 3
  | .c4 => 4

/-- CHSEL is recognised (R80). -/
def recognised (sel : BitVec 8) : Bool :=
  decide (sel.toNat = 0xFF) || (decide (1 ≤ sel.toNat) && decide (sel.toNat ≤ 0x0F))

/-- The bank `tid` names is not configured. -/
def bankUnconfigured (s : State) (tid : BitVec 2) : Bool := (timOf s.cfg tid).any fun t => !(s.tim.get t).cfgd

/-- A channel that `sel` selects in the bank `tid` names is not configured. -/
def channelUnconfigured (s : State) (sel : BitVec 8) (tid : BitVec 2) : Bool :=
  (timOf s.cfg tid).any fun t =>
    [ChId.c1, ChId.c2, ChId.c3, ChId.c4].any fun c => sel.getLsbD (channelNo c - 1) && !((s.pwm.get t).get c).cfgd

/-- The checks of each command in the order they are tested, each with the code of its failure: R101, R121, R124, R126,
R130, R153, R154, R156 to R161, R184, R185, ordered as R202 says. -/
def checks (i : Instr) (s : State) : List (Bool × ErrCode) :=
  match i with
  | .ckdrv => []
  | .ckws => []
  | .ckaux => []
  | .ckcfg => [(s.clkValid, .clkDone), (decide (ckflagsOf s.cfg s.clkreq s.flreq ≠ 0#6), .clkInv)]
  | .stcalc => [(!s.clkValid, .noClk)]
  | .stcfg => [(decide (s.ops.a0.toNat = 0) || decide (16777215 < s.ops.a0.toNat), .stRange)]
  | .stget => []
  | .stset => []
  | .sten => [(decide (s.st.state = .unconfigured), .stState)]
  | .stdis => []
  | .stcb _ => []
  | .std2t _ => [(!s.clkValid, .noClk), (decide (s.st.state = .unconfigured), .stState)]
  | .tmpsc => [(decide (s.ops.a1.toNat = 0), .div0)]
  | .tmcfg sel _ _ _ dir tid =>
    [(decide (dir = 3#2), .field), (decide (tid = 3#2), .timId), (!recognised sel, .chSel), (!s.clkValid, .noClk),
     (decide (s.ops.a0.toNat = 0), .div0)]
  | .tmen tid => [(decide (tid = 3#2), .timId), (bankUnconfigured s tid, .noTim)]
  | .tmdis tid => [(decide (tid = 3#2), .timId)]
  | .tmrst tid => [(decide (tid = 3#2), .timId)]
  | .tmirq tid => [(decide (tid = 3#2), .timId)]
  | .tmclr tid => [(decide (tid = 3#2), .timId)]
  | .tmack tid => [(decide (tid = 3#2), .timId)]
  | .pwccr => []
  | .pwcfg sel _ _ _ tid =>
    [(decide (tid = 3#2), .timId), (!recognised sel, .chSel), (bankUnconfigured s tid, .noTim)]
  | .pwduty sel tid =>
    [(decide (tid = 3#2), .timId), (!recognised sel, .chSel), (bankUnconfigured s tid, .noTim),
     (channelUnconfigured s sel tid, .noPwm)]

/-- The code of the first check that fails (R90, R202). -/
def firstFailure (l : List (Bool × ErrCode)) : Option ErrCode := (l.find? (·.1)).map (·.2)

/-- Command `i` is refused, with ERR alone written, wherever one of its checks fails, in a legal configuration. -/
def RefusedByChecks (i : Instr) : Prop :=
  ∀ s e, s.cfg.wf → firstFailure (checks i s) = some e → exec i s = .next (s.setErr e)

/-- Every check of command `i` passes. -/
def Passes (i : Instr) (s : State) : Prop := firstFailure (checks i s) = none

/-- TICK_W. -/
def tickBits (cfg : Config) : Nat :=
  match cfg.tickW with
  | .w64 => 64
  | .w32 => 32

/-- The pieces of state that Table R37 tells apart, ERR left out. -/
inductive Piece where
  | operands | r0 | r1 | r2 | r3 | seq | clamp | request | ckflags | freqs | images
  | stRun | stPeriod | cbEn | tick
  | timEn (t : TimId) | timUif (t : TimId) | timCnt (t : TimId) | timRest (t : TimId)
  | pwmMode (t : TimId) | pwmDuty (t : TimId) | nvic (t : TimId)
  | surroundings
deriving DecidableEq, Repr

/-- The piece is the same in both states. -/
def Same (p : Piece) (s t : State) : Prop :=
  match p with
  | .operands => t.ops = s.ops
  | .r0 => t.res.r0 = s.res.r0
  | .r1 => t.res.r1 = s.res.r1
  | .r2 => t.res.r2 = s.res.r2
  | .r3 => t.res.r3 = s.res.r3
  | .seq => t.seq = s.seq
  | .clamp => t.clamp = s.clamp
  | .request => t.clkreq = s.clkreq ∧ t.flreq = s.flreq
  | .ckflags => t.ckflags = s.ckflags
  | .freqs => t.freqs = s.freqs ∧ t.clkValid = s.clkValid
  | .images => t.img = s.img
  | .stRun => t.st.state = s.st.state ∧ t.st.enable = s.st.enable
  | .stPeriod =>
    t.st.reload = s.st.reload ∧ t.st.load = s.st.load ∧ t.st.tickint = s.st.tickint ∧ t.st.clksrc = s.st.clksrc
  | .cbEn => t.st.cbEn = s.st.cbEn
  | .tick => t.tick = s.tick
  | .timEn b => (t.tim.get b).en = (s.tim.get b).en
  | .timUif b => (t.tim.get b).uif = (s.tim.get b).uif
  | .timCnt b => (t.tim.get b).cntInit = (s.tim.get b).cntInit
  | .timRest b =>
    { t.tim.get b with en := false, uif := false, cntInit := 0#16 } =
      { s.tim.get b with en := false, uif := false, cntInit := 0#16 }
  | .pwmMode b => ∀ c,
    ((t.pwm.get b).get c).cfgd = ((s.pwm.get b).get c).cfgd ∧ ((t.pwm.get b).get c).inv = ((s.pwm.get b).get c).inv ∧
    ((t.pwm.get b).get c).pol = ((s.pwm.get b).get c).pol ∧ ((t.pwm.get b).get c).pe = ((s.pwm.get b).get c).pe
  | .pwmDuty b => ∀ c,
    ((t.pwm.get b).get c).duty = ((s.pwm.get b).get c).duty ∧
    ((t.pwm.get b).get c).ccrPre = ((s.pwm.get b).get c).ccrPre ∧
    ((t.pwm.get b).get c).ccrAct = ((s.pwm.get b).get c).ccrAct
  | .nvic b => t.nvicEn.get b = s.nvicEn.get b
  | .surroundings => t.cfg = s.cfg ∧ t.inputs = s.inputs ∧ t.host = s.host ∧ t.turns = s.turns ∧ t.cb = s.cb

/-- The pieces of the bank a TID names; none for TID = 3. -/
def ofBank (cfg : Config) (tid : BitVec 2) (f : TimId → List Piece) : List Piece := (timOf cfg tid).elim [] f

/-- The column "writes" of Table R37. -/
def mayWrite (cfg : Config) : Instr → List Piece
  | .ckdrv => [.r0, .r1, .r2, .r3, .ckflags]
  | .ckws => [.r0]
  | .ckaux => [.r0, .r1]
  | .ckcfg => [.seq]
  | .stcalc => [.r0, .r1, .r2]
  | .stcfg => [.stRun, .stPeriod, .tick]
  | .stget => [.r0, .r1]
  | .stset => [.tick]
  | .sten => [.stRun]
  | .stdis => [.stRun]
  | .stcb _ => [.cbEn]
  | .std2t _ => [.r0, .r1]
  | .tmpsc => [.r0, .r1]
  | .tmcfg _ _ _ _ _ tid => .clamp :: ofBank cfg tid fun t => [.timCnt t, .timRest t, .nvic t]
  | .tmen tid => ofBank cfg tid fun t => [.timEn t]
  | .tmdis tid => ofBank cfg tid fun t => [.timEn t, .timCnt t]
  | .tmrst tid => ofBank cfg tid fun t => [.timEn t, .timUif t, .timCnt t, .timRest t, .pwmMode t, .pwmDuty t, .nvic t]
  | .tmirq _ => [.r0]
  | .tmclr tid => ofBank cfg tid fun t => [.timUif t]
  | .tmack tid => ofBank cfg tid fun t => [.timUif t]
  | .pwccr => [.r0, .r1]
  | .pwcfg _ _ _ _ tid => .clamp :: ofBank cfg tid fun t => [.pwmMode t, .pwmDuty t]
  | .pwduty _ tid => .clamp :: ofBank cfg tid fun t => [.pwmDuty t]

/-- A register whose write stalls while the sequencer is busy: CMD, A0..A3, CLKREQ, FLREQ (R113). -/
def stallRegs : List Reg := [.cmd, .a0, .a1, .a2, .a3, .clkreq, .flreq]

/-- R52 for every register but CMD. -/
def writeEffect (r : Reg) (v : Word) (u : State) : State :=
  match r with
  | .a0 => u.setOps { u.ops with a0 := v }
  | .a1 => u.setOps { u.ops with a1 := v }
  | .a2 => u.setOps { u.ops with a2 := v }
  | .a3 => u.setOps { u.ops with a3 := v }
  | .clkreq => u.setClkreq (v &&& 0x007FFFF3#32)
  | .flreq => u.setFlreq (v &&& 0x00000017#32)
  | .err => u.setErr .none
  | .clamp => u.setClamp (u.clamp &&& ~~~(v.setWidth 6))
  | _ => u

/-- The edges of the phase graph (R117), with the hold each needs. -/
def PhaseEdge (s : State) (p : Phase) : Prop :=
  (s.seq = .flash ∧ p = .hseOn) ∨ (s.seq = .hseOn ∧ p = .hseWait) ∨
  (s.seq = .hseWait ∧ p = .cfgr ∧ s.inputs.hseRdy = true) ∨
  (s.seq = .cfgr ∧ p = .pllOn ∧ reqSw s.clkreq = 2#2) ∨ (s.seq = .cfgr ∧ p = .switch ∧ reqSw s.clkreq ≠ 2#2) ∨
  (s.seq = .pllOn ∧ p = .pllWait) ∨ (s.seq = .pllWait ∧ p = .switch ∧ s.inputs.pllRdy = true) ∨
  (s.seq = .switch ∧ p = .swWait) ∨ (s.seq = .swWait ∧ p = .freq ∧ s.inputs.sws = reqSw s.clkreq) ∨
  (s.seq = .freq ∧ p = .idle)

/-- A turn that could end the hold `s` is in: an input change that meets it, or reset. -/
def Releases (s : State) : Turn → Prop
  | .inputs i => seqEnabled (s.setInputs i) = true
  | .rst => True
  | .host => False
  | .handler _ => False
  | .sequencer => False
  | .tick => False
  | .uev _ => False

/-- Turns of the environment and the sequencer, and entries of handlers: no access of the host, no reset. -/
def eventTurn : Turn → Bool
  | .host => false
  | .handler _ => true
  | .rst => false
  | .sequencer => true
  | .tick => true
  | .uev _ => true
  | .inputs _ => true

/-- How many tick events a list of turns holds. -/
def tickCount (l : List Turn) : Nat := l.countP (· = .tick)

/-- The commands that name a bank, and can make its interrupt request fall: TMCLR, TMACK, TMRST, TMCFG (R207, R208). -/
def canDropIrq (cfg : Config) (i : Instr) (t : TimId) : Prop :=
  ∃ tid, timOf cfg tid = some t ∧
    (i = .tmclr tid ∨ i = .tmack tid ∨ i = .tmrst tid ∨ ∃ sel ie opm arpe dir, i = .tmcfg sel ie opm arpe dir tid)

end Sys2Proof.Claims

open Sys2Proof Sys2Proof.Machine Sys2Proof.Claims

/-! ### Decoding and encoding -/

/-- R70 to R76, R78: decoding the word of a well-formed command gives it back, with every field at every value. -/
def Obligations.DecodeOfEncode : Prop :=
  ∀ i : Instr, i.wellFormed = true → decode (encode i) = .ok i

/-- R70, R78, R82: a word that decodes is the word of the command it decodes to, which is well-formed; no two words stand
for one command and no bit of a word is ignored. -/
def Obligations.EncodeOfDecode : Prop :=
  ∀ (w : Word) (i : Instr), decode w = .ok i → i.wellFormed = true ∧ encode i = w

/-- R79: (a) an OP outside Table R78 is refused with E_BADOP; (b), (c) a reserved bit or DIR = 3 with E_FIELD; a refused word
changes ERR and nothing else; every other word is a command; the all-zero word is case (a). -/
def Obligations.IllegalWordsRefused : Prop :=
  (∀ (w : Word) (s : State), reservedOf w = none → execWord w s = .next (s.setErr .badOp)) ∧
  (∀ (w m : Word) (s : State), reservedOf w = some m →
    (w &&& m ≠ 0#32 ∨ (w.toNat / 2 ^ 24 = 0x21 ∧ (w.toNat / 4) % 4 = 3)) → execWord w s = .next (s.setErr .field)) ∧
  (∀ (w m : Word), reservedOf w = some m → w &&& m = 0#32 →
    ¬ (w.toNat / 2 ^ 24 = 0x21 ∧ (w.toNat / 4) % 4 = 3) →
    ∃ i, decode w = .ok i ∧ ∀ s, execWord w s = exec i s) ∧
  reservedOf 0#32 = none

/-- Words of the spec's own examples, one at least per family, decode to the command they stand for (R83, R154, R129, R156,
R161, R184, R185, and the assembling lines of 95_test_vectors.md 2.6). -/
def Obligations.SpecWordsDecode : Prop :=
  decode 0x04000000#32 = .ok .ckcfg ∧ decode 0x16000001#32 = .ok (.stcb true) ∧
  decode 0x17000001#32 = .ok (.std2t true) ∧ decode 0x21000150#32 = .ok (.tmcfg 0x01#8 true false true 0#2 0#2) ∧
  decode 0x2100FF2A#32 = .ok (.tmcfg 0xFF#8 false true false 2#2 2#2) ∧ decode 0x27000002#32 = .ok (.tmack 2#2) ∧
  decode 0x31000C1D#32 = .ok (.pwcfg 0x0C#8 true true true 1#2) ∧ decode 0x3200FF02#32 = .ok (.pwduty 0xFF#8 2#2)

/-! ### The step, the port and the window -/

/-- R17, R70: at a write of a word to CMD with SEQ = 0, the step is exec of the command it decodes to, once the turn and the
access are used up and the port has answered; a word that decodes to none is refused in the same place. -/
def Obligations.StepRunsDecodedCommand : Prop :=
  ∀ (s : State) (w : Word) (rest : List HostAccess), HostIssues s (writeAccess s.cfg .cmd w) rest → s.seq = .idle →
    (∀ i, decode w = .ok i → step s = exec i (afterAccess s rest none .done)) ∧
    (∀ e, decode w = .error e → step s = .next ((afterAccess s rest none .done).setErr (decodeErrCode e)))

/-- The model's own placing of a command (log entry 2): the very next step runs it, whatever state it is placed in. -/
def Obligations.PlacedCommandRunsNext : Prop :=
  ∀ (s : State) (n : Nat) (i : Instr), decodeTableWord 32 n = some i →
    step (s.withFetchWord 32 n) =
      exec i (((s.setSeq .idle).setHost ⟨s.host.port.toList ++ s.host.queue, none, .done⟩).setCb ⟨false, s.cb.count⟩)

/-- R53: the offsets of Table R53; every register has its own aligned offset, and an aligned offset names no other register
than the one that has it. -/
def Obligations.WindowTableOneToOne : Prop :=
  [Reg.cmd, .status, .err, .clamp, .a0, .a1, .a2, .a3, .r0, .r1, .r2, .r3, .clkreq, .flreq, .ckflags].map regOffset =
    [0x000, 0x004, 0x008, 0x00C, 0x010, 0x014, 0x018, 0x01C, 0x020, 0x024, 0x028, 0x02C, 0x030, 0x034, 0x038] ∧
  [Reg.fCore, .fAhb, .fApb1, .fApb2, .stReload, .oStload, .tickLo, .tickHi, .oFlash, .oRcccr, .oCfgr].map regOffset =
    [0x040, 0x044, 0x048, 0x04C, 0x050, 0x054, 0x058, 0x05C, 0x060, 0x064, 0x068] ∧
  (∀ (t : TimId) (base : Nat), base = (match t with | .t0 => 0x100 | .t1 => 0x140 | .t2 => 0x180) →
    [BankReg.tctl, .psc, .arrPre, .arrAct, .cntInit, .freq, .pwmctl, .duty].map
      (fun r => (regOffset (.bank t r)).toNat) = [0x00, 0x04, 0x08, 0x0C, 0x10, 0x14, 0x18, 0x1C].map (base + ·) ∧
    ∀ c : ChId, (regOffset (.bank t (.ccrPre c))).toNat = base + 0x1C + 4 * channelNo c ∧
      (regOffset (.bank t (.ccrAct c))).toNat = base + 0x2C + 4 * channelNo c) ∧
  (∀ r : Reg, regAt (regOffset r) = some r ∧ (regOffset r).toNat % 4 = 0) ∧
  (∀ (off : BitVec 10) (r : Reg), off.toNat % 4 = 0 → regAt off = some r → regOffset r = off) ∧
  (∀ off : BitVec 10, off.toNat % 4 = 0 →
    (regAt off = none ↔ off.toNat = 0x03C ∨ (0x06C ≤ off.toNat ∧ off.toNat ≤ 0x0FC) ∨ 0x1C0 ≤ off.toNat))

/-- R51, with the thirteen codes of ERR (R18, Table R201): a read answers the register's value (the views are in StatusLayout
and BankViewLayouts), changes no state of the engine, an unlisted offset and CMD read 0, and reading again with no step between
gives the same. -/
def Obligations.ReadsChangeNothing : Prop :=
  (∀ s : State,
    [Reg.a0, .a1, .a2, .a3, .r0, .r1, .r2, .r3].map (readReg s) =
      [s.ops.a0, s.ops.a1, s.ops.a2, s.ops.a3, s.res.r0, s.res.r1, s.res.r2, s.res.r3] ∧
    [Reg.clkreq, .flreq, .fCore, .fAhb, .fApb1, .fApb2, .oFlash, .oRcccr, .oCfgr].map (readReg s) =
      [s.clkreq, s.flreq, s.freqs.core, s.freqs.ahb, s.freqs.apb1, s.freqs.apb2, s.img.flash, s.img.rcccr, s.img.cfgr] ∧
    [Reg.clamp, .ckflags, .stReload, .oStload].map (fun r => (readReg s r).toNat) =
      [s.clamp.toNat, s.ckflags.toNat, s.st.reload.toNat, s.st.load.toNat] ∧
    [ErrCode.none, .badOp, .field, .clkInv, .clkDone, .noClk, .stRange, .stState, .timId, .chSel, .div0, .noTim,
      .noPwm].map (fun e => (readReg (s.setErr e) .err).toNat) = [0, 1, 2, 3, 4, 5, 6, 7, 8, 9, 10, 11, 12] ∧
    (readReg s .tickLo).toNat = s.tick.toNat % 2 ^ 32 ∧
    (readReg s .tickHi).toNat = (if s.cfg.tickW = .w64 then s.tick.toNat / 2 ^ 32 else 0) ∧
    ∀ t : TimId,
      [BankReg.psc, .arrPre, .arrAct, .cntInit, .freq].map (fun r => (readReg s (.bank t r)).toNat) =
        [(s.tim.get t).psc.toNat, (s.tim.get t).arrPre.toNat, (s.tim.get t).arrAct.toNat, (s.tim.get t).cntInit.toNat,
         (s.tim.get t).freq.toNat] ∧
      ∀ c : ChId, (readReg s (.bank t (.ccrPre c))).toNat = ((s.pwm.get t).get c).ccrPre.toNat ∧
        (readReg s (.bank t (.ccrAct c))).toNat = ((s.pwm.get t).get c).ccrAct.toNat) ∧
  ∀ (s : State) (off : BitVec 10) (rest : List HostAccess), off.toNat % 4 = 0 →
    HostIssues s ⟨s.cfg.baseHi ++ off, .word, .read⟩ rest →
    step s = .next (afterAccess s rest none (.data (regRead s off))) ∧
    regRead (afterAccess s rest none (.data (regRead s off))) off = regRead s off ∧
    (∀ r, regAt off = some r → regRead s off = readReg s r) ∧
    (regAt off = none → regRead s off = 0#32) ∧ (regAt off = some .cmd → regRead s off = 0#32)

/-- R52: what a write does, by the access class of its register. -/
def Obligations.RegisterWriteClasses : Prop :=
  (∀ (s : State) (r : Reg) (v : Word) (rest : List HostAccess), HostIssues s (writeAccess s.cfg r v) rest →
    (s.seq = .idle ∨ r ∉ stallRegs → r ≠ .cmd →
      step s = .next (writeEffect r v (afterAccess s rest none .done))) ∧
    (s.seq = .idle → r = .cmd → step s = execWord v (afterAccess s rest none .done)) ∧
    (s.seq ≠ .idle → r ∈ stallRegs →
      step s = .next (afterAccess s rest (some (writeAccess s.cfg r v)) .stalled))) ∧
  (∀ (s : State) (off : BitVec 10) (v : Word) (rest : List HostAccess), off.toNat % 4 = 0 → regAt off = none →
    HostIssues s ⟨s.cfg.baseHi ++ off, .word, .write v⟩ rest → step s = .next (afterAccess s rest none .done))

/-- R113: while SEQ ≠ 0 a write to CMD, A0..A3, CLKREQ or FLREQ is held on the port and changes nothing, however often it is
tried, and the host issues nothing after it; once SEQ = 0 it takes effect as if issued then; reads, and writes to ERR and
CLAMP, are not held. -/
def Obligations.StallWhileBusy : Prop :=
  (∀ (s : State) (r : Reg) (v : Word) (rest : List HostAccess), HostIssues s (writeAccess s.cfg r v) rest →
    s.seq ≠ .idle → r ∈ stallRegs →
    step s = .next (afterAccess s rest (some (writeAccess s.cfg r v)) .stalled)) ∧
  (∀ (s : State) (r : Reg) (v : Word), nextTurn s = .host → s.host.port = some (writeAccess s.cfg r v) →
    s.seq ≠ .idle → r ∈ stallRegs →
    step s = .next (afterAccess s s.host.queue s.host.port .stalled)) ∧
  (∀ (s : State) (a : HostAccess), nextTurn s = .host → s.host.port = some a → s.seq = .idle →
    step s = step (s.setHost ⟨a :: s.host.queue, none, s.host.resp⟩)) ∧
  (∀ (s : State) (r : Reg) (v : Word) (rest : List HostAccess), s.seq ≠ .idle →
    (HostIssues s (readAccess s.cfg r) rest → ∃ x, step s = .next (afterAccess s rest none (.data x))) ∧
    (HostIssues s (writeAccess s.cfg .err v) rest →
      step s = .next ((afterAccess s rest none .done).setErr .none)) ∧
    (HostIssues s (writeAccess s.cfg .clamp v) rest →
      step s = .next ((afterAccess s rest none .done).setClamp (s.clamp &&& ~~~(v.setWidth 6)))))

/-- A byte or halfword access, or one at an address that is no multiple of 4, is answered with a bus-error response and changes
no state of the engine (R56). That it is so for a write to a stalling register while the sequencer is busy, which R113 would
hold, is the model's deduction: the bus error comes before the stall (log entry 5, unsafe). -/
def Obligations.NarrowOrMisalignedAccess : Prop :=
  ∀ (s : State) (off : BitVec 10) (size : AccessSize) (kind : AccessKind) (rest : List HostAccess),
    HostIssues s ⟨s.cfg.baseHi ++ off, size, kind⟩ rest → (size ≠ .word ∨ off.toNat % 4 ≠ 0) →
    step s = .next (afterAccess s rest none .busError)

/-- R20, with the numbers of SEQ (R16) and ST_STATE (R27): the layout of STATUS, assembled from the state and the inputs at
the read; a write is ignored. -/
def Obligations.StatusLayout : Prop :=
  ∀ s : State, ∀ v : Word, v = readReg s .status →
    v.getLsbD 0 = decide (s.seq ≠ .idle) ∧ v.getLsbD 1 = s.clkValid ∧ v.extractLsb' 2 2 = s.st.state.code ∧
    [StState.unconfigured, .running, .stopped].map StState.code = [0#2, 1#2, 2#2] ∧
    v.getLsbD 4 = s.st.cbEn ∧ v.extractLsb' 5 3 = 0#3 ∧ v.extractLsb' 8 4 = s.seq.code ∧
    [Phase.idle, .flash, .hseOn, .hseWait, .cfgr, .pllOn, .pllWait, .switch, .swWait, .freq].map Phase.code =
      [0#4, 1#4, 2#4, 3#4, 4#4, 5#4, 6#4, 7#4, 8#4, 9#4] ∧
    v.getLsbD 12 = s.inputs.hseRdy ∧ v.getLsbD 13 = s.inputs.pllRdy ∧ v.extractLsb' 14 2 = s.inputs.sws ∧
    v.getLsbD 16 = ((s.tim.get .t0).uif && (s.tim.get .t0).uie) ∧
    v.getLsbD 17 = ((s.tim.get .t1).uif && (s.tim.get .t1).uie) ∧
    v.getLsbD 18 = ((s.tim.get .t2).uif && (s.tim.get .t2).uie) ∧ v.getLsbD 19 = false ∧
    v.getLsbD 20 = s.nvicEn.get .t0 ∧ v.getLsbD 21 = s.nvicEn.get .t1 ∧ v.getLsbD 22 = s.nvicEn.get .t2 ∧
    v.getLsbD 23 = false ∧ v.getLsbD 24 = s.st.enable ∧ v.getLsbD 25 = s.st.tickint ∧ v.getLsbD 26 = s.st.clksrc ∧
    v.extractLsb' 27 5 = 0#5 ∧ ∀ x, regWrite (regOffset .status) x s = .next s

/-- R30, R32: the layouts of TCTL[t], PWMCTL[t] and DUTY[t]; a write to any of a bank's registers is ignored. -/
def Obligations.BankViewLayouts : Prop :=
  ∀ (s : State) (t : TimId) (c : ChId) (v p d : Word) (b : Timer) (ch : Channel),
    v = readReg s (.bank t .tctl) → p = readReg s (.bank t .pwmctl) → d = readReg s (.bank t .duty) →
    b = s.tim.get t → ch = (s.pwm.get t).get c →
    (v.getLsbD 0 = b.en ∧ v.extractLsb' 1 2 = b.dir.code ∧ v.getLsbD 3 = b.arpe ∧ v.getLsbD 4 = b.opm ∧
      v.getLsbD 5 = b.uie ∧ v.getLsbD 6 = b.uif ∧ v.getLsbD 7 = b.cfgd ∧ v.extractLsb' 8 4 = b.chsel ∧
      v.extractLsb' 12 20 = 0#20) ∧
    (p.getLsbD (4 * (channelNo c - 1)) = ch.inv ∧ p.getLsbD (4 * (channelNo c - 1) + 1) = ch.pol ∧
      p.getLsbD (4 * (channelNo c - 1) + 2) = ch.pe ∧ p.getLsbD (4 * (channelNo c - 1) + 3) = ch.cfgd ∧
      p.extractLsb' 16 16 = 0#16) ∧
    (d.extractLsb' (8 * (channelNo c - 1)) 8).toNat = ch.duty.toNat ∧
    ∀ r x, regWrite (regOffset (.bank t r)) x s = .next s

/-! ### Refusals, completion, frames -/

/-- R202, R200: each command is refused exactly when one of its checks fails, with the code of the first that fails and
nothing else written; where none fails it answers a next state with ERR as it was. In a legal configuration (Config.wf, which
EngineInv has). -/
def Obligations.ExactRefusals : Prop :=
  ∀ (i : Instr) (s : State), s.cfg.wf →
    (∀ e, firstFailure (checks i s) = some e → exec i s = .next (s.setErr e)) ∧
    (firstFailure (checks i s) = none → ∃ t, exec i s = .next t ∧ t.err = s.err)

/-- A command writes nothing outside its row of Table R37, ERR apart (R37, which the spec marks as a summary derived from the
command rules). -/
def Obligations.CommandFootprint : Prop :=
  ∀ (i : Instr) (s t : State) (p : Piece), exec i s = .next t → p ∉ mayWrite s.cfg i → Same p s t

/-- R209, R200: no step is refused by the model, and the one fault is a host access outside the window
(log entry 5); every other step, a refused command's among them, answers a next state. -/
def Obligations.NoTrapNoStop : Prop :=
  ∀ s : State, (∃ t, step s = .next t) ∨
    (step s = .fault .outsideWindow ∧ nextTurn s = .host ∧
      ∃ a, (s.host.port = some a ∨ (s.host.port = none ∧ ∃ rest, s.host.queue = a :: rest)) ∧
        a.addr.toNat / 1024 ≠ s.cfg.baseHi.toNat)

/-! ### Clock -/

/-- R91, R92, R93, R94: the machine's selector tables are Table R91 value by value, and the four frequencies a request has, for
the tables of any configuration. -/
def Obligations.ClockTreeFormulas : Prop :=
  (∀ cfg : Config, cfg.sel = State.reset.cfg.sel →
    (∀ v : BitVec 4, hpreDiv cfg v = [1, 1, 1, 1, 1, 1, 1, 1, 2, 4, 8, 16, 64, 128, 256, 512].getD v.toNat 0) ∧
    (∀ v : BitVec 3, ppreDiv cfg v = [1, 1, 1, 1, 2, 4, 8, 16].getD v.toNat 0) ∧
    (∀ v : BitVec 2, adcDiv cfg v = [2, 4, 6, 8].getD v.toNat 0) ∧
    (∀ b : Bool, xtpreDiv cfg b = if b then 2 else 1) ∧
    (∀ v : BitVec 4, pllMul cfg v = [2, 3, 4, 5, 6, 7, 8, 9, 10, 11, 12, 13, 14, 15, 16, 16].getD v.toNat 0) ∧
    ∀ (b : Bool) (f : Nat), usbClock cfg b f = if b then f else f * 2 / 3) ∧
  ∀ (cfg : Config) (c : Word),
    fPll cfg c = (if c.getLsbD 16 then cfg.hseHz / xtpreDiv cfg (c.getLsbD 17) else cfg.hsiHz / 2) *
      pllMul cfg (c.extractLsb' 18 4) ∧
    fCore cfg c = [cfg.hsiHz, cfg.hseHz, fPll cfg c, 0].getD (c.toNat % 4) 0 ∧
    fAhb cfg c = fCore cfg c / hpreDiv cfg (c.extractLsb' 4 4) ∧
    fApb1 cfg c = fAhb cfg c / ppreDiv cfg (c.extractLsb' 8 3) ∧
    fApb2 cfg c = fAhb cfg c / ppreDiv cfg (c.extractLsb' 11 3)

/-- R97: the six flags of a request, bit by bit; and, as R97's sentence marked derived says, V_AHB or V_APB2 comes only with
V_CORE. -/
def Obligations.ValidityFlags : Prop :=
  ∀ (cfg : Config) (c fl : Word), cfg.wf →
    (c.toNat % 4 = 3 → ckflagsOf cfg c fl = 0x10#6) ∧
    (c.toNat % 4 ≠ 3 → ∀ k : BitVec 6, k = ckflagsOf cfg c fl →
      (k.getLsbD 0 = true ↔ 72000000 < fCore cfg c) ∧ (k.getLsbD 1 = true ↔ 72000000 < fAhb cfg c) ∧
      (k.getLsbD 2 = true ↔ 36000000 < fApb1 cfg c) ∧ (k.getLsbD 3 = true ↔ 72000000 < fApb2 cfg c) ∧
      k.getLsbD 4 = false ∧ (k.getLsbD 5 = true ↔ fl.toNat % 8 ≠ wsReq cfg (fCore cfg c)) ∧
      (k.getLsbD 1 = true ∨ k.getLsbD 3 = true → k.getLsbD 0 = true))

/-- R95, R96, R97 (source property S2): a request is valid exactly when a clock is selected, the core and APB1 limits hold
and LAT is the required count; all four frequencies are then within their limits. -/
def Obligations.ValidRequestsWithinLimits : Prop :=
  ∀ (cfg : Config) (c fl : Word), cfg.wf →
    (ckflagsOf cfg c fl = 0#6 ↔ c.toNat % 4 ≠ 3 ∧ fCore cfg c ≤ 72000000 ∧ fApb1 cfg c ≤ 36000000 ∧
      fl.toNat % 8 = wsReq cfg (fCore cfg c)) ∧
    (ckflagsOf cfg c fl = 0#6 → fAhb cfg c ≤ 72000000 ∧ fApb2 cfg c ≤ 72000000 ∧ fl.toNat % 8 ≤ 2)

/-- R98: CKDRV. -/
def Obligations.CkdrvDerivesFrequencies : Prop :=
  encode .ckdrv = 0x01000000#32 ∧
  ∀ s : State,
    exec .ckdrv s = .next ((s.setRes ⟨BitVec.ofNat 32 (fCore s.cfg s.clkreq), BitVec.ofNat 32 (fAhb s.cfg s.clkreq),
      BitVec.ofNat 32 (fApb1 s.cfg s.clkreq), BitVec.ofNat 32 (fApb2 s.cfg s.clkreq)⟩).setCkflags
        (ckflagsOf s.cfg s.clkreq s.flreq)) ∧
    (s.clkreq.toNat % 4 = 3 → exec .ckdrv s = .next ((s.setRes ⟨0#32, 0#32, 0#32, 0#32⟩).setCkflags 0x10#6))

/-- R99 with the thresholds of R96: CKWS. -/
def Obligations.CkwsSelectsWaitStates : Prop :=
  encode .ckws = 0x02000000#32 ∧
  ∀ s : State, s.cfg.wf → exec .ckws s = .next (s.setRes
    ⟨if s.ops.a0.toNat ≤ 24000000 then 0#32 else if s.ops.a0.toNat ≤ 48000000 then 1#32
      else if s.ops.a0.toNat ≤ 72000000 then 2#32 else 3#32, s.res.r1, s.res.r2, s.res.r3⟩)

/-- R100: CKAUX, by the selector tables of the configuration, and with those of Table R91. -/
def Obligations.CkauxAdcUsbClocks : Prop :=
  encode .ckaux = 0x03000000#32 ∧
  ∀ s : State,
    (s.clkreq.toNat % 4 = 3 → exec .ckaux s = .next (s.setRes ⟨0#32, 0#32, s.res.r2, s.res.r3⟩)) ∧
    (s.clkreq.toNat % 4 ≠ 3 → exec .ckaux s = .next (s.setRes
      ⟨BitVec.ofNat 32 (fApb2 s.cfg s.clkreq / adcDiv s.cfg (s.clkreq.extractLsb' 14 2)),
       BitVec.ofNat 32 (usbClock s.cfg (s.clkreq.getLsbD 22) (fPll s.cfg s.clkreq)), s.res.r2, s.res.r3⟩)) ∧
    (s.cfg.sel = State.reset.cfg.sel →
      adcDiv s.cfg (s.clkreq.extractLsb' 14 2) = 2 * ((s.clkreq.toNat / 2 ^ 14) % 4 + 1) ∧
      usbClock s.cfg (s.clkreq.getLsbD 22) (fPll s.cfg s.clkreq) =
        if s.clkreq.getLsbD 22 then fPll s.cfg s.clkreq else fPll s.cfg s.clkreq * 2 / 3)

/-- R101, R102: CKCFG is refused once the clock is configured, then for an invalid request; otherwise it puts SEQ to FLASH and
writes nothing else. -/
def Obligations.CkcfgStartsSequencer : Prop :=
  encode .ckcfg = 0x04000000#32 ∧
  ∀ s : State,
    (s.clkValid = true → exec .ckcfg s = .next (s.setErr .clkDone)) ∧
    (s.clkValid = false → ckflagsOf s.cfg s.clkreq s.flreq ≠ 0#6 → exec .ckcfg s = .next (s.setErr .clkInv)) ∧
    (s.clkValid = false → ckflagsOf s.cfg s.clkreq s.flreq = 0#6 → exec .ckcfg s = .next (s.setSeq .flash))

/-- R105 to R112, R114: the step of each phase at the sequencer's turn, and that a phase whose hold is not met does nothing.
Then the turns that do nothing to the engine, as the model has them: the sequencer's at IDLE (log entry 6), a change of the
inputs, which the engine samples and never stores (log entry 3), the host's with nothing to issue (log entry 6), and the
entry of an interrupt handler, which puts its accesses before the host's others (log entry 23). -/
def Obligations.SequencerPhaseSteps : Prop :=
  (∀ s : State, nextTurn s = .sequencer → ∀ u : State, u = atTurn s →
    (s.seq = .idle → step s = .next u) ∧
    (s.seq = .flash → step s = .next ((u.setImg ⟨s.flreq, s.img.rcccr, s.img.cfgr⟩).setSeq .hseOn)) ∧
    (s.seq = .hseOn →
      step s = .next ((u.setImg ⟨s.img.flash, s.img.rcccr ||| 0x00010000#32, s.img.cfgr⟩).setSeq .hseWait)) ∧
    (s.seq = .hseWait → step s = .next (if s.inputs.hseRdy then u.setSeq .cfgr else u)) ∧
    (s.seq = .cfgr → step s = .next ((u.setImg ⟨s.img.flash, s.img.rcccr,
      (s.clkreq &&& 0x007FFFF0#32) ||| (s.img.cfgr &&& 0x00000003#32)⟩).setSeq
        (if s.clkreq.toNat % 4 = 2 then .pllOn else .switch))) ∧
    (s.seq = .pllOn →
      step s = .next ((u.setImg ⟨s.img.flash, s.img.rcccr ||| 0x01000000#32, s.img.cfgr⟩).setSeq .pllWait)) ∧
    (s.seq = .pllWait → step s = .next (if s.inputs.pllRdy then u.setSeq .switch else u)) ∧
    (s.seq = .switch → step s = .next ((u.setImg ⟨s.img.flash, s.img.rcccr,
      (s.img.cfgr &&& 0x007FFFF0#32) ||| (s.clkreq &&& 0x00000003#32)⟩).setSeq .swWait)) ∧
    (s.seq = .swWait → step s = .next (if s.inputs.sws.toNat = s.clkreq.toNat % 4 then u.setSeq .freq else u)) ∧
    (s.seq = .freq → step s = .next (((u.setFreqs ⟨BitVec.ofNat 32 (fCore s.cfg s.clkreq),
      BitVec.ofNat 32 (fAhb s.cfg s.clkreq), BitVec.ofNat 32 (fApb1 s.cfg s.clkreq),
      BitVec.ofNat 32 (fApb2 s.cfg s.clkreq)⟩).setClkValid true).setSeq .idle))) ∧
  (∀ (s : State) (i : ClkInputs), nextTurn s = .inputs i → step s = .next ((atTurn s).setInputs i)) ∧
  (∀ s : State, nextTurn s = .host → s.host.port = none → s.host.queue = [] → step s = .next (atTurn s)) ∧
  ∀ (s : State) (l : List HostAccess), nextTurn s = .handler l →
    step s = .next (afterAccess s (l ++ s.host.queue) s.host.port .none)

/-- A step changes SEQ only along the phase graph of R117 (which the spec marks as its own inference from R101 and R105 to
R114), by an accepted CKCFG, or by reset. -/
def Obligations.PhaseGraphOnly : Prop :=
  ∀ s t : State, step s = .next t → t.seq ≠ s.seq →
    (nextTurn s = .rst ∧ t.seq = .idle) ∨ (RunsCommand s .ckcfg ∧ t.seq = .flash) ∨
    (nextTurn s = .sequencer ∧ PhaseEdge s t.seq)

/-- R101, R105 to R114, R117: from a CKCFG for a valid request on a clock not yet configured, with the inputs answering and the
default order of agents (the model's choice, log entry 1), 7 sequencer steps, or 9 where the PLL is selected, complete the sequence;
and where CKCFG was the host's last access, that is where the run ends (R254, log entry 24). -/
def Obligations.ClockBringUpCompletes : Prop :=
  ∀ (s : State) (rest : List HostAccess), EngineInv s → s.turns = [] →
    HostIssues s (writeAccess s.cfg .cmd 0x04000000#32) rest → s.seq = .idle → s.clkValid = false →
    ckflagsOf s.cfg s.clkreq s.flreq = 0#6 → s.inputs.hseRdy = true → s.inputs.pllRdy = true →
    s.inputs.sws = reqSw s.clkreq →
    ∃ t, Sys2Proof.core.run (if reqSw s.clkreq = 2#2 then 10 else 8) s = .next t ∧
      t.seq = .idle ∧ t.clkValid = true ∧ t.err = s.err ∧
      t.img = ⟨s.flreq, enablesFor s.clkreq, s.clkreq⟩ ∧
      t.freqs.core.toNat = fCore s.cfg s.clkreq ∧ t.freqs.ahb.toNat = fAhb s.cfg s.clkreq ∧
      t.freqs.apb1.toNat = fApb1 s.cfg s.clkreq ∧ t.freqs.apb2.toNat = fApb2 s.cfg s.clkreq ∧
      t.clkreq = s.clkreq ∧ t.flreq = s.flreq ∧ t.ops = s.ops ∧ t.res = s.res ∧ t.tick = s.tick ∧ t.tim = s.tim ∧
      t.pwm = s.pwm ∧ t.host.queue = rest ∧ t.host.port = none ∧ (rest = [] → IsEndState s (architectural t))

/-- R104, R115, R213: a hold that is not met stays for any number of steps in which no input change meets it and no reset
comes, whatever the host and the events do; the images and the cached frequencies stay; and such a run has no end state
(R254, log entry 24). -/
def Obligations.HangPersists : Prop :=
  (∀ (n : Nat) (s t : State), holding s → (∀ x ∈ s.turns, ¬ Releases s x) → Sys2Proof.core.run n s = .next t →
    holding t ∧ t.seq = s.seq ∧ t.img = s.img ∧ t.clkreq = s.clkreq ∧ t.flreq = s.flreq ∧ t.freqs = s.freqs ∧
    t.clkValid = s.clkValid) ∧
  ∀ s : State, holding s → (∀ x ∈ s.turns, ¬ Releases s x) → ∀ t, ¬ IsEndState s t

/-- R24, R102: once CLK_VALID is 1, neither it, nor the four frequencies, nor the clock images change until reset. -/
def Obligations.ClockConfiguredOnce : Prop :=
  ∀ s t : State, EngineInv s → s.clkValid = true → nextTurn s ≠ .rst → step s = .next t →
    t.clkValid = true ∧ t.freqs = s.freqs ∧ t.img = s.img ∧ t.seq = .idle

/-! ### SysTick -/

/-- R121: STCALC. -/
def Obligations.StcalcReloadValue : Prop :=
  encode .stcalc = 0x10000000#32 ∧
  RefusedByChecks .stcalc ∧
  ∀ (s : State) (r : Nat), s.cfg.wf → s.clkValid = true →
    r = (2 * s.freqs.core.toNat * s.ops.a0.toNat + 1000000) / 2000000 →
    exec .stcalc s = .next (s.setRes ⟨BitVec.ofNat 32 r, BitVec.ofNat 32 (r / 2 ^ 32),
      if 1 ≤ r ∧ r ≤ 16777215 then 1#32 else 0#32, s.res.r3⟩) ∧ r < 2 ^ 64

/-- R124, R122: STCFG. -/
def Obligations.StcfgStartsTimeBase : Prop :=
  encode .stcfg = 0x11000000#32 ∧
  RefusedByChecks .stcfg ∧
  ∀ s : State, s.cfg.wf → 1 ≤ s.ops.a0.toNat → s.ops.a0.toNat ≤ 16777215 →
    ∃ x : SysTick, exec .stcfg s = .next ((s.setSt x).setTick 0#64) ∧
      x.state = .running ∧ x.reload.toNat = s.ops.a0.toNat ∧ x.load.toNat = s.ops.a0.toNat - s.cfg.stLoadBias ∧
      x.enable = true ∧ x.tickint = true ∧ x.clksrc = true ∧ x.cbEn = s.st.cbEn

/-- R125: STGET. -/
def Obligations.StgetSnapshot : Prop :=
  encode .stget = 0x12000000#32 ∧
  ∀ s : State, ∃ lo hi : Word, exec .stget s = .next (s.setRes ⟨lo, hi, s.res.r2, s.res.r3⟩) ∧
    lo.toNat = s.tick.toNat % 2 ^ 32 ∧ (s.cfg.tickW = .w64 → hi.toNat = s.tick.toNat / 2 ^ 32) ∧
    (s.cfg.tickW = .w32 → hi = 0#32)

/-- R128: STSET writes (A1 ++ A0) mod 2^TICK_W, and a tick event right after it, if Running, gives the set value plus
one. -/
def Obligations.StsetThenTick : Prop :=
  encode .stset = 0x13000000#32 ∧
  ∀ s : State, ∃ v : BitVec 64, exec .stset s = .next (s.setTick v) ∧
    v.toNat = (s.ops.a1.toNat * 2 ^ 32 + s.ops.a0.toNat) % 2 ^ tickBits s.cfg ∧
    (s.st.state = .running →
      (tickEvent (s.setTick v)).tick.toNat =
        (s.ops.a1.toNat * 2 ^ 32 + s.ops.a0.toNat + 1) % 2 ^ tickBits s.cfg)

/-- R126, R127: STEN and STDIS. -/
def Obligations.StenStdisToggle : Prop :=
  encode .sten = 0x14000000#32 ∧ encode .stdis = 0x15000000#32 ∧
  ∀ s : State,
    (s.st.state = .unconfigured →
      exec .sten s = .next (s.setErr .stState) ∧ exec .stdis s = .next s) ∧
    (s.st.state ≠ .unconfigured →
      exec .sten s = .next (s.setSt ⟨.running, s.st.reload, s.st.load, s.st.cbEn, true, s.st.tickint, s.st.clksrc⟩)) ∧
    (s.st.state = .running →
      exec .stdis s = .next (s.setSt ⟨.stopped, s.st.reload, s.st.load, s.st.cbEn, false, s.st.tickint, s.st.clksrc⟩)) ∧
    (s.st.state = .stopped → exec .stdis s = .next s)

/-- R129, R205: STCB writes CB_EN alone; from then on a tick event while Running raises the strobe exactly if EN was 1. -/
def Obligations.StcbRegistersCallback : Prop :=
  (∀ en, encode (.stcb en) = 0x16#8 ++ 0#23 ++ BitVec.ofBool en) ∧
  ∀ (s : State) (en : Bool), ∃ t, exec (.stcb en) s = .next t ∧
    t = s.setSt ⟨s.st.state, s.st.reload, s.st.load, en, s.st.enable, s.st.tickint, s.st.clksrc⟩ ∧
    (s.st.state = .running → (tickEvent t).cb.count = s.cb.count + (if en then 1 else 0))

/-- R130: STD2T answers the least number of whole ticks that lasts at least the duration. The premise ST_RELOAD ≠ 0 holds of
every configured time base (EngineInv). -/
def Obligations.Std2tLeastTicks : Prop :=
  (∀ ms, encode (.std2t ms) = 0x17#8 ++ 0#23 ++ BitVec.ofBool ms) ∧
  (∀ ms, RefusedByChecks (.std2t ms)) ∧
  ∀ (s : State) (ms : Bool), s.cfg.wf → s.clkValid = true → s.st.state ≠ .unconfigured → s.st.reload ≠ 0#24 →
    ∃ n : Nat, exec (.std2t ms) s =
        .next (s.setRes ⟨BitVec.ofNat 32 n, BitVec.ofNat 32 (n / 2 ^ 32), s.res.r2, s.res.r3⟩) ∧ n < 2 ^ 64 ∧
      ∀ k : Nat, n ≤ k ↔
        s.ops.a0.toNat * s.freqs.core.toNat ≤ k * ((if ms then 1000 else 1000000) * s.st.reload.toNat)

/-- R123: ST_STATE changes only as Table R123 says. -/
def Obligations.TimeBaseTransitions : Prop :=
  ∀ s t : State, step s = .next t → t.st.state ≠ s.st.state →
    (nextTurn s = .rst ∧ t.st.state = .unconfigured) ∨ (RunsCommand s .stcfg ∧ t.st.state = .running) ∨
    (RunsCommand s .stdis ∧ s.st.state = .running ∧ t.st.state = .stopped) ∨
    (RunsCommand s .sten ∧ s.st.state = .stopped ∧ t.st.state = .running)

/-- R204: the tick event; the strobe `tick_cb` is up after a step that R204 raises it in, and counted (log entry 11). -/
def Obligations.TickEventStep : Prop :=
  ∀ s : State, nextTurn s = .tick →
    (s.st.state ≠ .running → step s = .next (atTurn s)) ∧
    (s.st.state = .running → ∃ v : BitVec 64, v.toNat = (s.tick.toNat + 1) % 2 ^ tickBits s.cfg ∧
      step s = .next (((atTurn s).setTick v).setCb ⟨s.st.cbEn, s.cb.count + (if s.st.cbEn then 1 else 0)⟩))

/-- R28: TICK changes only by a tick event while Running, by STCFG, by STSET, or by reset. -/
def Obligations.TickWriters : Prop :=
  ∀ s t : State, step s = .next t → t.tick ≠ s.tick →
    (nextTurn s = .tick ∧ s.st.state = .running) ∨ RunsCommand s .stcfg ∨ RunsCommand s .stset ∨ nextTurn s = .rst

/-- R132 (marked by the spec as derived from R128 and R204; source property S7) and R205: over any run of events,
input changes and sequencer steps, TICK rises by exactly one per tick event, modulo 2^TICK_W, and with a callback
registered there is one strobe per tick. -/
def Obligations.TicksCountedExactly : Prop :=
  ∀ (l rest : List Turn) (s : State), s.turns = l ++ rest → (∀ x ∈ l, eventTurn x = true) →
    s.st.state = .running → s.tick.toNat < 2 ^ tickBits s.cfg →
    ∃ t, Sys2Proof.core.run l.length s = .next t ∧ t.st.state = .running ∧
      t.tick.toNat = (s.tick.toNat + tickCount l) % 2 ^ tickBits s.cfg ∧
      t.cb.count = s.cb.count + (if s.st.cbEn then tickCount l else 0)

/-! ### Timers -/

/-- R152: the prescaler is the nearest count less one, ties up, and out of 0..65535 it is clamped and flagged. -/
def Obligations.PrescalerNearestClamped : Prop :=
  ∀ (cfg : Config) (f target a : Nat), cfg.wf → 1 ≤ target → a ≤ 65535 → ∃ q : Nat,
    2 * (target * (a + 1)) * q ≤ 2 * f + target * (a + 1) ∧
    2 * f + target * (a + 1) < 2 * (target * (a + 1)) * (q + 1) ∧
    (q = 0 → pscOf cfg f target a = ⟨0, true, false⟩) ∧
    (1 ≤ q → q ≤ 65536 → pscOf cfg f target a = ⟨q - 1, false, false⟩) ∧
    (65536 < q → pscOf cfg f target a = ⟨65535, false, true⟩)

/-- R151: the clock of every bank, from APB1 and the prescaler selector in force, for the selector tables of any configuration
and for those of Table R91, and its bound. -/
def Obligations.TimerClockFromApb1 : Prop :=
  ∀ (s : State) (t : TimId), s.cfg.wf →
    fTim s t = (if ppreDiv s.cfg (s.img.cfgr.extractLsb' 8 3) = 1 then s.freqs.apb1.toNat else 2 * s.freqs.apb1.toNat) ∧
    (s.cfg.sel = State.reset.cfg.sel →
      fTim s t = if (s.img.cfgr.toNat / 2 ^ 8) % 8 < 4 then s.freqs.apb1.toNat else 2 * s.freqs.apb1.toNat) ∧
    (EngineInv s → fTim s t ≤ 72000000)

/-- R153: TMPSC. -/
def Obligations.TmpscPrescaler : Prop :=
  encode .tmpsc = 0x20000000#32 ∧
  RefusedByChecks .tmpsc ∧
  ∀ s : State, s.cfg.wf → s.ops.a1 ≠ 0#32 → ∀ (r : PscResult) (rep : Word),
    r = pscOf s.cfg s.ops.a0.toNat s.ops.a1.toNat (min s.ops.a2.toNat 65535) →
    rep.toNat = (if r.lo then 1 else 0) + (if r.hi then 2 else 0) + (if 65535 < s.ops.a2.toNat then 4 else 0) →
    exec .tmpsc s = .next (s.setRes ⟨BitVec.ofNat 32 r.value, rep, s.res.r2, s.res.r3⟩)

/-- R154: TMCFG. -/
def Obligations.TmcfgConfiguresBank : Prop :=
  (∀ sel ie opm arpe dir tid, encode (.tmcfg sel ie opm arpe dir tid) = 0x21#8 ++ 0#8 ++ sel ++ 0#1 ++
    BitVec.ofBool ie ++ BitVec.ofBool opm ++ BitVec.ofBool arpe ++ dir ++ tid) ∧
  (∀ sel ie opm arpe dir tid, RefusedByChecks (.tmcfg sel ie opm arpe dir tid)) ∧
  ∀ (s : State) (sel : BitVec 8) (ie opm arpe : Bool) (dir tid : BitVec 2) (b : TimId) (a : Nat) (r : PscResult),
    s.cfg.wf → Passes (.tmcfg sel ie opm arpe dir tid) s → timOf s.cfg tid = some b → a = min s.ops.a1.toNat 65535 →
    r = pscOf s.cfg (if ppreDiv s.cfg (s.img.cfgr.extractLsb' 8 3) = 1 then s.freqs.apb1.toNat else 2 * s.freqs.apb1.toNat)
      s.ops.a0.toNat a →
    ∃ t x, exec (.tmcfg sel ie opm arpe dir tid) s = .next t ∧
      t = ((s.setTim (s.tim.set b x)).setNvicEn (if ie then s.nvicEn.set b true else s.nvicEn)).setClamp t.clamp ∧
      x.cfgd = true ∧ x.en = (s.tim.get b).en ∧ x.uif = (s.tim.get b).uif ∧ x.dir.code = dir ∧ x.arpe = arpe ∧
      x.opm = opm ∧ x.uie = ie ∧ x.chsel = sel.extractLsb' 0 4 ∧ x.freq = s.ops.a0 ∧ x.psc.toNat = r.value ∧
      x.arrPre.toNat = a ∧ x.arrAct = (if arpe then (s.tim.get b).arrAct else x.arrPre) ∧
      x.cntInit.toNat = min s.ops.a2.toNat 65535 ∧
      t.clamp.getLsbD 0 = (s.clamp.getLsbD 0 || r.lo) ∧ t.clamp.getLsbD 1 = (s.clamp.getLsbD 1 || r.hi) ∧
      t.clamp.getLsbD 2 = (s.clamp.getLsbD 2 || decide (65535 < s.ops.a1.toNat)) ∧
      t.clamp.getLsbD 3 = (s.clamp.getLsbD 3 || decide (65535 < s.ops.a2.toNat)) ∧
      t.clamp.getLsbD 4 = s.clamp.getLsbD 4 ∧ t.clamp.getLsbD 5 = s.clamp.getLsbD 5

/-- TMCFG, and PWCFG, twice with the same word and operands leave what once leaves: R155, which the spec marks as derived from
Pseudocode R154, and R184's corner case. -/
def Obligations.ConfiguringTwiceIsOnce : Prop :=
  (∀ (sel : BitVec 8) (ie opm arpe : Bool) (dir tid : BitVec 2) (s t : State),
    exec (.tmcfg sel ie opm arpe dir tid) s = .next t → exec (.tmcfg sel ie opm arpe dir tid) t = .next t) ∧
  (∀ (sel : BitVec 8) (pe pol inv : Bool) (tid : BitVec 2) (s t : State),
    exec (.pwcfg sel pe pol inv tid) s = .next t → exec (.pwcfg sel pe pol inv tid) t = .next t)

/-- R156, R157, R158: TMEN, TMDIS, TMRST. -/
def Obligations.TimerStartStopReset : Prop :=
  (∀ tid, encode (.tmen tid) = 0x22#8 ++ 0#22 ++ tid ∧ encode (.tmdis tid) = 0x23#8 ++ 0#22 ++ tid ∧
    encode (.tmrst tid) = 0x24#8 ++ 0#22 ++ tid) ∧
  (∀ tid, RefusedByChecks (.tmen tid) ∧ RefusedByChecks (.tmdis tid) ∧ RefusedByChecks (.tmrst tid)) ∧
  ∀ (s : State) (tid : BitVec 2) (b : TimId), timOf s.cfg tid = some b →
    ((s.tim.get b).cfgd = true → exec (.tmen tid) s = .next (s.setTim (s.tim.set b { s.tim.get b with en := true }))) ∧
    exec (.tmdis tid) s = .next (s.setTim (s.tim.set b { s.tim.get b with en := false, cntInit := 0#16 })) ∧
    exec (.tmrst tid) s = .next (((s.setTim (s.tim.set b (State.reset.tim.get b))).setPwm
      (s.pwm.set b (State.reset.pwm.get b))).setNvicEn (s.nvicEn.set b false))

/-- R159, R160, R161: TMIRQ, TMCLR, TMACK. -/
def Obligations.UpdateFlagCommands : Prop :=
  (∀ tid, encode (.tmirq tid) = 0x25#8 ++ 0#22 ++ tid ∧ encode (.tmclr tid) = 0x26#8 ++ 0#22 ++ tid ∧
    encode (.tmack tid) = 0x27#8 ++ 0#22 ++ tid) ∧
  (∀ tid, RefusedByChecks (.tmirq tid) ∧ RefusedByChecks (.tmclr tid) ∧ RefusedByChecks (.tmack tid)) ∧
  ∀ (s : State) (tid : BitVec 2) (b : TimId), timOf s.cfg tid = some b →
    exec (.tmirq tid) s =
      .next (s.setRes ⟨if (s.tim.get b).uif then 1#32 else 0#32, s.res.r1, s.res.r2, s.res.r3⟩) ∧
    exec (.tmclr tid) s = .next (s.setTim (s.tim.set b { s.tim.get b with uif := false })) ∧
    exec (.tmack tid) s = .next (s.setTim (s.tim.set b { s.tim.get b with uif := false }))

/-- R206: the update event of bank `b`, whatever EN and CFGD are; other banks are not touched. -/
def Obligations.UpdateEventStep : Prop :=
  ∀ (s : State) (b : TimId), nextTurn s = .uev b →
    ∃ t, step s = .next t ∧ t = ((atTurn s).setTim t.tim).setPwm t.pwm ∧
      t.tim = s.tim.set b { s.tim.get b with
        arrAct := if (s.tim.get b).arpe then (s.tim.get b).arrPre else (s.tim.get b).arrAct, uif := true } ∧
      (∀ u, u ≠ b → t.pwm.get u = s.pwm.get u) ∧
      ∀ c, (t.pwm.get b).get c = { (s.pwm.get b).get c with
        ccrAct := if ((s.pwm.get b).get c).pe then ((s.pwm.get b).get c).ccrPre else ((s.pwm.get b).get c).ccrAct }

/-- R207, R208: a request line, once up, falls at a step only by reset or by a command that clears or reconfigures that bank;
an update event raises it where UIE is set; and it reaches the core iff NVIC_EN[t], as irq_of(t). -/
def Obligations.IrqLineLevel : Prop :=
  (∀ (s u : State) (t : TimId), step s = .next u → timIrq s t = true → timIrq u t = false →
    nextTurn s = .rst ∨ ∃ i, RunsCommand s i ∧ canDropIrq s.cfg i t) ∧
  (∀ (s u : State) (t : TimId), nextTurn s = .uev t → (s.tim.get t).uie = true → step s = .next u →
    timIrq u t = true) ∧
  (∀ (s : State) (t : TimId) (n : Nat),
    coreIrq s t = some n ↔ ((s.tim.get t).uif = true ∧ (s.tim.get t).uie = true ∧ s.nvicEn.get t = true ∧
      n = s.cfg.irqOf.get t))

/-! ### PWM -/

/-- R181, R188: the duty operand is signed and clamped to the nearest bound, never wrapped; DUTY_FLOOR is 0, and the clamp is
stated for every floor from 0 to 100. -/
def Obligations.DutyClampedToBounds : Prop :=
  State.reset.cfg.dutyFloor = 0 ∧
  (∀ w : Word, dutyOperand w = if w.toNat < 2 ^ 31 then (w.toNat : Int) else (w.toNat : Int) - 2 ^ 32) ∧
  ∀ (cfg : Config) (d : Int), cfg.dutyFloor ≤ 100 →
    (d < cfg.dutyFloor → dutyClamp cfg d = cfg.dutyFloor) ∧ (100 < d → dutyClamp cfg d = 100) ∧
    ((cfg.dutyFloor : Int) ≤ d → d ≤ 100 → (dutyClamp cfg d : Int) = d) ∧
    (dutyClamped cfg d = true ↔ d < cfg.dutyFloor ∨ 100 < d)

/-- R182 (its clause v ≤ auto-reload + 1 is the spec's own inference from d ≤ 100): the compare value is
the nearest count, ties up, never above auto-reload + 1, and lowered to 65535 in exactly one case. -/
def Obligations.CompareNearestClamped : Prop :=
  ∀ (cfg : Config) (d a : Nat), cfg.wf → d ≤ 100 → a ≤ 65535 → ∃ v : Nat,
    100 * v ≤ d * (a + 1) + 50 ∧ d * (a + 1) + 50 < 100 * (v + 1) ∧ v ≤ a + 1 ∧ ccrOf cfg d a = min v 65535 ∧
    (ccrClamped cfg d a = true ↔ 65535 < v) ∧ (65535 < v ↔ d = 100 ∧ a = 65535) ∧
    ccrOf cfg 0 a = 0 ∧ (a ≠ 65535 → ccrOf cfg 100 a = a + 1)

/-- R183: PWCCR. -/
def Obligations.PwccrCompareValue : Prop :=
  encode .pwccr = 0x30000000#32 ∧
  ∀ (s : State) (d a : Nat) (rep : Word), s.cfg.wf → d = dutyClamp s.cfg (dutyOperand s.ops.a0) →
    a = min s.ops.a1.toNat 65535 →
    rep.toNat = (if dutyClamped s.cfg (dutyOperand s.ops.a0) then 1 else 0) + (if ccrClamped s.cfg d a then 2 else 0) +
      (if 65535 < s.ops.a1.toNat then 4 else 0) →
    exec .pwccr s = .next (s.setRes ⟨BitVec.ofNat 32 (ccrOf s.cfg d a), rep, s.res.r2, s.res.r3⟩)

/-- R184, R186: PWCFG. -/
def Obligations.PwcfgConfiguresChannels : Prop :=
  (∀ sel pe pol inv tid, encode (.pwcfg sel pe pol inv tid) = 0x31#8 ++ 0#8 ++ sel ++ 0#3 ++ BitVec.ofBool pe ++
    BitVec.ofBool pol ++ BitVec.ofBool inv ++ tid) ∧
  (∀ sel pe pol inv tid, RefusedByChecks (.pwcfg sel pe pol inv tid)) ∧
  ∀ (s : State) (sel : BitVec 8) (pe pol inv : Bool) (tid : BitVec 2) (b : TimId) (d v : Nat),
    s.cfg.wf → Passes (.pwcfg sel pe pol inv tid) s → timOf s.cfg tid = some b →
    d = dutyClamp s.cfg (dutyOperand s.ops.a0) → v = ccrOf s.cfg d (s.tim.get b).arrPre.toNat →
    ∃ t, exec (.pwcfg sel pe pol inv tid) s = .next t ∧ t = (s.setPwm t.pwm).setClamp t.clamp ∧
      (∀ u, u ≠ b → t.pwm.get u = s.pwm.get u) ∧
      (∀ c, sel.getLsbD (channelNo c - 1) = false → (t.pwm.get b).get c = (s.pwm.get b).get c) ∧
      (∀ c x, sel.getLsbD (channelNo c - 1) = true → x = (t.pwm.get b).get c →
        x.cfgd = true ∧ x.inv = inv ∧ x.pol = pol ∧ x.pe = pe ∧ x.duty.toNat = d ∧ x.ccrPre.toNat = v ∧
        x.ccrAct = (if pe then ((s.pwm.get b).get c).ccrAct else x.ccrPre)) ∧
      (∀ k, k < 4 → t.clamp.getLsbD k = s.clamp.getLsbD k) ∧
      t.clamp.getLsbD 4 = (s.clamp.getLsbD 4 || dutyClamped s.cfg (dutyOperand s.ops.a0)) ∧
      t.clamp.getLsbD 5 = (s.clamp.getLsbD 5 || ccrClamped s.cfg d (s.tim.get b).arrPre.toNat)

/-- R185, R186, R187: PWDUTY, each selected channel with its own stored PE, and no mode bit rewritten. -/
def Obligations.PwdutyChangesDutyOnly : Prop :=
  (∀ sel tid, encode (.pwduty sel tid) = 0x32#8 ++ 0#8 ++ sel ++ 0#6 ++ tid) ∧
  (∀ sel tid, RefusedByChecks (.pwduty sel tid)) ∧
  ∀ (s : State) (sel : BitVec 8) (tid : BitVec 2) (b : TimId) (d v : Nat),
    s.cfg.wf → Passes (.pwduty sel tid) s → timOf s.cfg tid = some b →
    d = dutyClamp s.cfg (dutyOperand s.ops.a0) → v = ccrOf s.cfg d (s.tim.get b).arrPre.toNat →
    ∃ t, exec (.pwduty sel tid) s = .next t ∧ t = (s.setPwm t.pwm).setClamp t.clamp ∧
      (∀ u, u ≠ b → t.pwm.get u = s.pwm.get u) ∧
      (∀ c, sel.getLsbD (channelNo c - 1) = false → (t.pwm.get b).get c = (s.pwm.get b).get c) ∧
      (∀ c x y, sel.getLsbD (channelNo c - 1) = true → y = (s.pwm.get b).get c → x = (t.pwm.get b).get c →
        x.cfgd = y.cfgd ∧ x.inv = y.inv ∧ x.pol = y.pol ∧ x.pe = y.pe ∧ x.duty.toNat = d ∧ x.ccrPre.toNat = v ∧
        x.ccrAct = (if y.pe then y.ccrAct else x.ccrPre)) ∧
      (∀ k, k < 4 → t.clamp.getLsbD k = s.clamp.getLsbD k) ∧
      t.clamp.getLsbD 4 = (s.clamp.getLsbD 4 || dutyClamped s.cfg (dutyOperand s.ops.a0)) ∧
      t.clamp.getLsbD 5 = (s.clamp.getLsbD 5 || ccrClamped s.cfg d (s.tim.get b).arrPre.toNat)

/-- R185, R249: of two PWDUTY between update events, with PE = 1, only the last becomes active, at the update event. -/
def Obligations.LastDutyTakesEffect : Prop :=
  ∀ (s : State) (sel : BitVec 8) (tid : BitVec 2) (b : TimId) (c : ChId) (w1 w2 : Word),
    s.cfg.wf → Passes (.pwduty sel tid) s → timOf s.cfg tid = some b →
    sel.getLsbD (channelNo c - 1) = true → ((s.pwm.get b).get c).pe = true →
    ∃ t1 t2, exec (.pwduty sel tid) (s.setOps { s.ops with a0 := w1 }) = .next t1 ∧
      exec (.pwduty sel tid) (t1.setOps { t1.ops with a0 := w2 }) = .next t2 ∧
      ((t2.pwm.get b).get c).ccrAct = ((s.pwm.get b).get c).ccrAct ∧
      (((updateEvent b t2).pwm.get b).get c).ccrAct.toNat =
        ccrOf s.cfg (dutyClamp s.cfg (dutyOperand w2)) (s.tim.get b).arrPre.toNat

/-! ### Reset and the invariant -/

/-- R36: at power-up, and after a step in which `rst` is asserted, every piece of state has its value of Table R36. -/
def Obligations.ResetValues : Prop :=
  ∀ s : State, (s = State.reset ∨ ∃ u, nextTurn u = .rst ∧ step u = .next s) →
    s.ops = ⟨0#32, 0#32, 0#32, 0#32⟩ ∧ s.res = ⟨0#32, 0#32, 0#32, 0#32⟩ ∧ s.seq.code = 0#4 ∧ s.err.code = 0#8 ∧
    s.clamp = 0#6 ∧ s.clkreq = 0#32 ∧ s.flreq = 0#32 ∧ s.ckflags = 0#6 ∧ s.freqs = ⟨0#32, 0#32, 0#32, 0#32⟩ ∧
    s.clkValid = false ∧ s.img = ⟨0#32, 0#32, 0#32⟩ ∧ s.st.state.code = 0#2 ∧ s.st.reload = 0#24 ∧ s.st.load = 0#24 ∧
    s.st.cbEn = false ∧ s.st.enable = false ∧ s.st.tickint = false ∧ s.st.clksrc = false ∧ s.tick = 0#64 ∧
    (∀ t : TimId, s.nvicEn.get t = false ∧ readReg s (.bank t .tctl) = 0#32 ∧ (s.tim.get t).freq = 0#32 ∧
      (s.tim.get t).psc = 0#16 ∧ (s.tim.get t).arrPre = 0xFFFF#16 ∧ (s.tim.get t).arrAct = 0xFFFF#16 ∧
      (s.tim.get t).cntInit = 0#16 ∧
      ∀ c : ChId, (s.pwm.get t).get c = ⟨false, false, false, false, 0#7, 0#16, 0#16⟩)

/-- R230: reset, taken in any state, leaves every piece of the engine at its reset value, drops a stalled write and raises no
strobe. What the host and the environment do next, the inputs and the parameters are not the engine's (log entry 15). -/
def Obligations.ResetFromAnyState : Prop :=
  ∀ s : State, nextTurn s = .rst → step s = .next { State.reset with
    cfg := s.cfg
    inputs := s.inputs
    host := ⟨s.host.queue, none, .none⟩
    turns := s.turns.tail
    cb := ⟨false, s.cb.count⟩ }

/-- The reset state meets the invariant, with every parameter of Table R5 at the value, or the default, that the table names
(BASE has none there: log entry 4). -/
def Obligations.ResetMeetsInvariant : Prop :=
  EngineInv State.reset ∧
  ∀ (c : Config) (f : FixedParams), c = State.reset.cfg → f = c.fixed →
    c.hseHz = 8000000 ∧ c.hsiHz = 8000000 ∧ c.tickW = .w64 ∧ c.stLoadBias = 0 ∧ c.dutyFloor = 0 ∧
    c.irqOf.get .t0 = 28 ∧ c.irqOf.get .t1 = 29 ∧ c.irqOf.get .t2 = 30 ∧
    f.fMaxCore = 72000000 ∧ f.fMaxAhb = 72000000 ∧ f.fMaxApb1 = 36000000 ∧ f.fMaxApb2 = 72000000 ∧
    f.wsT0 = 24000000 ∧ f.wsT1 = 48000000 ∧ f.wsT2 = 72000000 ∧ f.stMax = 16777215 ∧
    f.pscW = 16 ∧ f.arrW = 16 ∧ f.cntW = 16 ∧ f.ccrW = 16 ∧ f.nTim = 3 ∧ f.nCh = 4 ∧ f.dataW = 32 ∧
    ∀ t : TimId, f.timBus.get t = .apb1

/-- Every step keeps the invariant: reserved bits stay 0, the cached frequencies stay those of a valid request, the images are
as far as the sequence has come, the time base's images follow its state, the preload pairs differ only under their enable
bit, and what was never configured is at reset (R21, R22, R24, R25, R27, R29, R31, R34, R97, R115, R240). -/
def Obligations.StepKeepsInvariant : Prop :=
  ∀ s t : State, EngineInv s → step s = .next t → EngineInv t

/-- R240, R242, R110, R112: under the invariant, the switch bits of O_CFGR leave 0 only when the flash image already holds the
requested wait-states, and the core frequency is cached only after. -/
def Obligations.FlashWrittenBeforeSwitch : Prop :=
  ∀ s t : State, EngineInv s → step s = .next t → s.img.cfgr &&& 0x00000003#32 = 0#32 →
    t.img.cfgr &&& 0x00000003#32 ≠ 0#32 →
    (s.img.flash.toNat % 8 = wsReq s.cfg (fCore s.cfg s.clkreq) ∧ s.img.rcccr.getLsbD 16 = true ∧ s.clkValid = false ∧
      t.clkValid = false)

/-- R84: the pseudo-instruction GET_TICKS, as the model's host procedure (log entry 20) and in the default order of agents
(log entry 1), with no turn listed and nothing else to issue, returns TICK in one go and leaves TICK; and, R131, where an
interrupt handler comes first and issues STSET (log entry 23), it returns the value the handler set. -/
def Obligations.GetTicksReturnsTick : Prop :=
  (∀ (s : State) (fuel : Nat), 1 ≤ fuel → s.turns = [] → s.seq = .idle → s.host.queue = [] → s.host.port = none →
    s.cfg.tickW = .w64 → ∃ t, getTicks fuel s = some (s.tick, t) ∧ t.tick = s.tick ∧ t.err = s.err) ∧
  ∀ (s : State) (fuel : Nat), 3 ≤ fuel → s.turns = [.handler [writeAccess s.cfg .cmd 0x13000000#32]] → s.seq = .idle →
    s.host.queue = [] → s.host.port = none → s.cfg.tickW = .w64 →
    ∃ t, getTicks fuel s = some (s.ops.a1 ++ s.ops.a0, t) ∧ t.tick = s.ops.a1 ++ s.ops.a0 ∧ t.err = s.err
end

