-- ==== Sys2Proof/Laws/Config.lean ====
section
/-!
SUPPORT. What a legal configuration (`Config.wf`) makes of the operand forms: the numbers of Table R5 in place of the
parameters. To be cited in place of unfolding them.
-/

namespace Sys2Proof

theorem Config.wf_fixed {c : Config} (h : c.wf) : c.fixed = .tableR5 := h.1

theorem Config.wf_sel {c : Config} (h : c.wf) : c.sel.wf := h.2.1

theorem Config.wf_dutyFloor {c : Config} (h : c.wf) : c.dutyFloor ≤ 100 := h.2.2.2.2.2.2

theorem Config.wf_frequencies {c : Config} (h : c.wf) :
    1 ≤ c.hsiHz ∧ 1 ≤ c.hseHz ∧ 16 * max c.hseHz (c.hsiHz / 2) < 2 ^ 32 := ⟨h.2.2.1, h.2.2.2.1, h.2.2.2.2.1⟩

namespace Machine

/-- An entry of a selector table, from what holds of all of them. -/
theorem pllMul_le {cfg : Config} (h : cfg.sel.wf) (v : BitVec 4) : pllMul cfg v ≤ 16 :=
  h.2.1 _ (by simp [pllMul, Vector.get])

variable {cfg : Config}

theorem fieldMax_pscW (h : cfg.wf) : fieldMax cfg.fixed.pscW = 65535 := by rw [Config.wf_fixed h]; rfl
theorem fieldMax_arrW (h : cfg.wf) : fieldMax cfg.fixed.arrW = 65535 := by rw [Config.wf_fixed h]; rfl
theorem fieldMax_cntW (h : cfg.wf) : fieldMax cfg.fixed.cntW = 65535 := by rw [Config.wf_fixed h]; rfl
theorem fieldMax_ccrW (h : cfg.wf) : fieldMax cfg.fixed.ccrW = 65535 := by rw [Config.wf_fixed h]; rfl
theorem fieldMax_nCh (h : cfg.wf) : fieldMax cfg.fixed.nCh = 15 := by rw [Config.wf_fixed h]; rfl

theorem highWord_dataW (h : cfg.wf) (n : Nat) : highWord cfg.fixed.dataW n = BitVec.ofNat 32 (n / 2 ^ 32) := by
  rw [Config.wf_fixed h]; rfl

theorem timBus_get (h : cfg.wf) (t : TimId) : cfg.fixed.timBus.get t = .apb1 := by
  rw [Config.wf_fixed h]; cases t <;> rfl

theorem wsReq_eq (h : cfg.wf) (f : Nat) :
    wsReq cfg f = if f ≤ 24000000 then 0 else if f ≤ 48000000 then 1 else if f ≤ 72000000 then 2 else 3 := by
  unfold wsReq; rw [Config.wf_fixed h]; rfl

theorem periodFits_iff (h : cfg.wf) (p : Nat) : periodFits cfg p = true ↔ 1 ≤ p ∧ p ≤ 16777215 := by
  unfold periodFits; rw [Config.wf_fixed h]; exact decide_eq_true_iff

/-- The banks that the four TID values name (R73). -/
theorem timOf_eq (h : cfg.wf) (tid : BitVec 2) :
    timOf cfg tid = [some .t0, some .t1, some .t2, none].getD tid.toNat none := by
  unfold timOf; rw [Config.wf_fixed h]; revert tid; decide

theorem timOf_none_iff (h : cfg.wf) (tid : BitVec 2) : timOf cfg tid = none ↔ tid = 3#2 := by
  rw [timOf_eq h]; revert tid; decide

/-- R80 with four channels. -/
theorem chmask_eq (h : cfg.wf) (sel : BitVec 8) :
    chmask cfg sel = if sel = 0xFF#8 then some 0xF#4
      else if 1 ≤ sel.toNat ∧ sel.toNat ≤ 15 then some (sel.extractLsb' 0 4) else none := by
  unfold chmask; rw [fieldMax_nCh h]

/-- R97 with the limits of Table R5. -/
theorem ckflagsOf_eq (h : cfg.wf) (c fl : Word) :
    ckflagsOf cfg c fl =
      if reqSw c = 3#2 then 0x10#6
      else
        BitVec.ofBool (decide ((reqLat fl).toNat ≠ wsReq cfg (fCore cfg c))) ++ 0#1
          ++ BitVec.ofBool (decide (72000000 < fApb2 cfg c)) ++ BitVec.ofBool (decide (36000000 < fApb1 cfg c))
          ++ BitVec.ofBool (decide (72000000 < fAhb cfg c)) ++ BitVec.ofBool (decide (72000000 < fCore cfg c)) := by
  unfold ckflagsOf; rw [Config.wf_fixed h]; rfl

/-- R152 with a register of 16 bits. -/
theorem pscOf_eq (h : cfg.wf) (f target a : Nat) :
    pscOf cfg f target a =
      if roundDiv f (target * (a + 1)) = 0 then ⟨0, true, false⟩
      else if 65535 < roundDiv f (target * (a + 1)) - 1 then ⟨65535, false, true⟩
      else ⟨roundDiv f (target * (a + 1)) - 1, false, false⟩ := by
  unfold pscOf; rw [fieldMax_pscW h]

/-- R182 with a register of 16 bits. -/
theorem ccrOf_eq (h : cfg.wf) (d a : Nat) : ccrOf cfg d a = min (min (ccrExact d a) (a + 1)) 65535 := by
  unfold ccrOf; rw [fieldMax_ccrW h]

theorem ccrClamped_iff (h : cfg.wf) (d a : Nat) : ccrClamped cfg d a = true ↔ 65535 < ccrExact d a := by
  unfold ccrClamped; rw [fieldMax_ccrW h]; exact decide_eq_true_iff

theorem clampTo_arrW (h : cfg.wf) (a : Word) : clampTo cfg.fixed.arrW a = min a.toNat 65535 := by
  unfold clampTo; rw [fieldMax_arrW h]

theorem clampTo_cntW (h : cfg.wf) (a : Word) : clampTo cfg.fixed.cntW a = min a.toNat 65535 := by
  unfold clampTo; rw [fieldMax_cntW h]

theorem exceeds_arrW (h : cfg.wf) (a : Word) : exceeds cfg.fixed.arrW a = true ↔ 65535 < a.toNat := by
  unfold exceeds; rw [fieldMax_arrW h]; exact decide_eq_true_iff

theorem exceeds_cntW (h : cfg.wf) (a : Word) : exceeds cfg.fixed.cntW a = true ↔ 65535 < a.toNat := by
  unfold exceeds; rw [fieldMax_cntW h]; exact decide_eq_true_iff

end Machine

end Sys2Proof
end

