-- ==== Sys2Proof/Laws/State.lean ====
section
/-!
SUPPORT. The small lemmas of State: one per field per update, so that no proof unfolds a record update; and the
get-after-set lemmas of the per-timer and per-channel tables.
-/

namespace Sys2Proof

section Tables

variable {α : Type}

@[simp] theorem PerTimer.get_set_self (v : PerTimer α) (t : TimId) (a : α) : (v.set t a).get t = a := by
  cases t <;> rfl

theorem PerTimer.get_set_other (v : PerTimer α) {t u : TimId} (a : α) (h : u ≠ t) : (v.set t a).get u = v.get u := by
  cases t <;> cases u <;> first | rfl | exact absurd rfl h

theorem PerTimer.get_set (v : PerTimer α) (t u : TimId) (a : α) :
    (v.set t a).get u = if u = t then a else v.get u := by
  cases t <;> cases u <;> rfl

theorem PerTimer.set_get_self (v : PerTimer α) (t : TimId) : v.set t (v.get t) = v := by
  cases t <;> rfl

theorem PerTimer.set_set (v : PerTimer α) (t : TimId) (a b : α) : (v.set t a).set t b = v.set t b := by
  cases t <;> rfl

theorem PerTimer.ext_get {v w : PerTimer α} (h : ∀ t, v.get t = w.get t) : v = w := by
  have h0 := h .t0
  have h1 := h .t1
  have h2 := h .t2
  cases v
  cases w
  simp_all [PerTimer.get]

@[simp] theorem PerChan.get_tabulate (f : ChId → α) (c : ChId) : (PerChan.tabulate f).get c = f c := by
  cases c <;> rfl

theorem PerChan.ext_get {v w : PerChan α} (h : ∀ c, v.get c = w.get c) : v = w := by
  have h1 := h .c1
  have h2 := h .c2
  have h3 := h .c3
  have h4 := h .c4
  cases v
  cases w
  simp_all [PerChan.get]

end Tables

namespace Machine

@[simp] theorem State.setOps_cfg (s : State) (x : OperandRegs) : (s.setOps x).cfg = s.cfg := rfl
@[simp] theorem State.setOps_ops (s : State) (x : OperandRegs) : (s.setOps x).ops = x := rfl
@[simp] theorem State.setOps_res (s : State) (x : OperandRegs) : (s.setOps x).res = s.res := rfl
@[simp] theorem State.setOps_seq (s : State) (x : OperandRegs) : (s.setOps x).seq = s.seq := rfl
@[simp] theorem State.setOps_err (s : State) (x : OperandRegs) : (s.setOps x).err = s.err := rfl
@[simp] theorem State.setOps_clamp (s : State) (x : OperandRegs) : (s.setOps x).clamp = s.clamp := rfl
@[simp] theorem State.setOps_clkreq (s : State) (x : OperandRegs) : (s.setOps x).clkreq = s.clkreq := rfl
@[simp] theorem State.setOps_flreq (s : State) (x : OperandRegs) : (s.setOps x).flreq = s.flreq := rfl
@[simp] theorem State.setOps_ckflags (s : State) (x : OperandRegs) : (s.setOps x).ckflags = s.ckflags := rfl
@[simp] theorem State.setOps_freqs (s : State) (x : OperandRegs) : (s.setOps x).freqs = s.freqs := rfl
@[simp] theorem State.setOps_clkValid (s : State) (x : OperandRegs) : (s.setOps x).clkValid = s.clkValid := rfl
@[simp] theorem State.setOps_img (s : State) (x : OperandRegs) : (s.setOps x).img = s.img := rfl
@[simp] theorem State.setOps_st (s : State) (x : OperandRegs) : (s.setOps x).st = s.st := rfl
@[simp] theorem State.setOps_tick (s : State) (x : OperandRegs) : (s.setOps x).tick = s.tick := rfl
@[simp] theorem State.setOps_tim (s : State) (x : OperandRegs) : (s.setOps x).tim = s.tim := rfl
@[simp] theorem State.setOps_pwm (s : State) (x : OperandRegs) : (s.setOps x).pwm = s.pwm := rfl
@[simp] theorem State.setOps_nvicEn (s : State) (x : OperandRegs) : (s.setOps x).nvicEn = s.nvicEn := rfl
@[simp] theorem State.setOps_inputs (s : State) (x : OperandRegs) : (s.setOps x).inputs = s.inputs := rfl
@[simp] theorem State.setOps_host (s : State) (x : OperandRegs) : (s.setOps x).host = s.host := rfl
@[simp] theorem State.setOps_turns (s : State) (x : OperandRegs) : (s.setOps x).turns = s.turns := rfl
@[simp] theorem State.setOps_cb (s : State) (x : OperandRegs) : (s.setOps x).cb = s.cb := rfl
@[simp] theorem State.setOps_setOps (s : State) (x y : OperandRegs) : (s.setOps x).setOps y = s.setOps y := rfl
@[simp] theorem State.setOps_self (s : State) : s.setOps s.ops = s := rfl

@[simp] theorem State.setRes_cfg (s : State) (x : ResultRegs) : (s.setRes x).cfg = s.cfg := rfl
@[simp] theorem State.setRes_ops (s : State) (x : ResultRegs) : (s.setRes x).ops = s.ops := rfl
@[simp] theorem State.setRes_res (s : State) (x : ResultRegs) : (s.setRes x).res = x := rfl
@[simp] theorem State.setRes_seq (s : State) (x : ResultRegs) : (s.setRes x).seq = s.seq := rfl
@[simp] theorem State.setRes_err (s : State) (x : ResultRegs) : (s.setRes x).err = s.err := rfl
@[simp] theorem State.setRes_clamp (s : State) (x : ResultRegs) : (s.setRes x).clamp = s.clamp := rfl
@[simp] theorem State.setRes_clkreq (s : State) (x : ResultRegs) : (s.setRes x).clkreq = s.clkreq := rfl
@[simp] theorem State.setRes_flreq (s : State) (x : ResultRegs) : (s.setRes x).flreq = s.flreq := rfl
@[simp] theorem State.setRes_ckflags (s : State) (x : ResultRegs) : (s.setRes x).ckflags = s.ckflags := rfl
@[simp] theorem State.setRes_freqs (s : State) (x : ResultRegs) : (s.setRes x).freqs = s.freqs := rfl
@[simp] theorem State.setRes_clkValid (s : State) (x : ResultRegs) : (s.setRes x).clkValid = s.clkValid := rfl
@[simp] theorem State.setRes_img (s : State) (x : ResultRegs) : (s.setRes x).img = s.img := rfl
@[simp] theorem State.setRes_st (s : State) (x : ResultRegs) : (s.setRes x).st = s.st := rfl
@[simp] theorem State.setRes_tick (s : State) (x : ResultRegs) : (s.setRes x).tick = s.tick := rfl
@[simp] theorem State.setRes_tim (s : State) (x : ResultRegs) : (s.setRes x).tim = s.tim := rfl
@[simp] theorem State.setRes_pwm (s : State) (x : ResultRegs) : (s.setRes x).pwm = s.pwm := rfl
@[simp] theorem State.setRes_nvicEn (s : State) (x : ResultRegs) : (s.setRes x).nvicEn = s.nvicEn := rfl
@[simp] theorem State.setRes_inputs (s : State) (x : ResultRegs) : (s.setRes x).inputs = s.inputs := rfl
@[simp] theorem State.setRes_host (s : State) (x : ResultRegs) : (s.setRes x).host = s.host := rfl
@[simp] theorem State.setRes_turns (s : State) (x : ResultRegs) : (s.setRes x).turns = s.turns := rfl
@[simp] theorem State.setRes_cb (s : State) (x : ResultRegs) : (s.setRes x).cb = s.cb := rfl
@[simp] theorem State.setRes_setRes (s : State) (x y : ResultRegs) : (s.setRes x).setRes y = s.setRes y := rfl
@[simp] theorem State.setRes_self (s : State) : s.setRes s.res = s := rfl

@[simp] theorem State.setSeq_cfg (s : State) (x : Phase) : (s.setSeq x).cfg = s.cfg := rfl
@[simp] theorem State.setSeq_ops (s : State) (x : Phase) : (s.setSeq x).ops = s.ops := rfl
@[simp] theorem State.setSeq_res (s : State) (x : Phase) : (s.setSeq x).res = s.res := rfl
@[simp] theorem State.setSeq_seq (s : State) (x : Phase) : (s.setSeq x).seq = x := rfl
@[simp] theorem State.setSeq_err (s : State) (x : Phase) : (s.setSeq x).err = s.err := rfl
@[simp] theorem State.setSeq_clamp (s : State) (x : Phase) : (s.setSeq x).clamp = s.clamp := rfl
@[simp] theorem State.setSeq_clkreq (s : State) (x : Phase) : (s.setSeq x).clkreq = s.clkreq := rfl
@[simp] theorem State.setSeq_flreq (s : State) (x : Phase) : (s.setSeq x).flreq = s.flreq := rfl
@[simp] theorem State.setSeq_ckflags (s : State) (x : Phase) : (s.setSeq x).ckflags = s.ckflags := rfl
@[simp] theorem State.setSeq_freqs (s : State) (x : Phase) : (s.setSeq x).freqs = s.freqs := rfl
@[simp] theorem State.setSeq_clkValid (s : State) (x : Phase) : (s.setSeq x).clkValid = s.clkValid := rfl
@[simp] theorem State.setSeq_img (s : State) (x : Phase) : (s.setSeq x).img = s.img := rfl
@[simp] theorem State.setSeq_st (s : State) (x : Phase) : (s.setSeq x).st = s.st := rfl
@[simp] theorem State.setSeq_tick (s : State) (x : Phase) : (s.setSeq x).tick = s.tick := rfl
@[simp] theorem State.setSeq_tim (s : State) (x : Phase) : (s.setSeq x).tim = s.tim := rfl
@[simp] theorem State.setSeq_pwm (s : State) (x : Phase) : (s.setSeq x).pwm = s.pwm := rfl
@[simp] theorem State.setSeq_nvicEn (s : State) (x : Phase) : (s.setSeq x).nvicEn = s.nvicEn := rfl
@[simp] theorem State.setSeq_inputs (s : State) (x : Phase) : (s.setSeq x).inputs = s.inputs := rfl
@[simp] theorem State.setSeq_host (s : State) (x : Phase) : (s.setSeq x).host = s.host := rfl
@[simp] theorem State.setSeq_turns (s : State) (x : Phase) : (s.setSeq x).turns = s.turns := rfl
@[simp] theorem State.setSeq_cb (s : State) (x : Phase) : (s.setSeq x).cb = s.cb := rfl
@[simp] theorem State.setSeq_setSeq (s : State) (x y : Phase) : (s.setSeq x).setSeq y = s.setSeq y := rfl
@[simp] theorem State.setSeq_self (s : State) : s.setSeq s.seq = s := rfl

@[simp] theorem State.setErr_cfg (s : State) (x : ErrCode) : (s.setErr x).cfg = s.cfg := rfl
@[simp] theorem State.setErr_ops (s : State) (x : ErrCode) : (s.setErr x).ops = s.ops := rfl
@[simp] theorem State.setErr_res (s : State) (x : ErrCode) : (s.setErr x).res = s.res := rfl
@[simp] theorem State.setErr_seq (s : State) (x : ErrCode) : (s.setErr x).seq = s.seq := rfl
@[simp] theorem State.setErr_err (s : State) (x : ErrCode) : (s.setErr x).err = x := rfl
@[simp] theorem State.setErr_clamp (s : State) (x : ErrCode) : (s.setErr x).clamp = s.clamp := rfl
@[simp] theorem State.setErr_clkreq (s : State) (x : ErrCode) : (s.setErr x).clkreq = s.clkreq := rfl
@[simp] theorem State.setErr_flreq (s : State) (x : ErrCode) : (s.setErr x).flreq = s.flreq := rfl
@[simp] theorem State.setErr_ckflags (s : State) (x : ErrCode) : (s.setErr x).ckflags = s.ckflags := rfl
@[simp] theorem State.setErr_freqs (s : State) (x : ErrCode) : (s.setErr x).freqs = s.freqs := rfl
@[simp] theorem State.setErr_clkValid (s : State) (x : ErrCode) : (s.setErr x).clkValid = s.clkValid := rfl
@[simp] theorem State.setErr_img (s : State) (x : ErrCode) : (s.setErr x).img = s.img := rfl
@[simp] theorem State.setErr_st (s : State) (x : ErrCode) : (s.setErr x).st = s.st := rfl
@[simp] theorem State.setErr_tick (s : State) (x : ErrCode) : (s.setErr x).tick = s.tick := rfl
@[simp] theorem State.setErr_tim (s : State) (x : ErrCode) : (s.setErr x).tim = s.tim := rfl
@[simp] theorem State.setErr_pwm (s : State) (x : ErrCode) : (s.setErr x).pwm = s.pwm := rfl
@[simp] theorem State.setErr_nvicEn (s : State) (x : ErrCode) : (s.setErr x).nvicEn = s.nvicEn := rfl
@[simp] theorem State.setErr_inputs (s : State) (x : ErrCode) : (s.setErr x).inputs = s.inputs := rfl
@[simp] theorem State.setErr_host (s : State) (x : ErrCode) : (s.setErr x).host = s.host := rfl
@[simp] theorem State.setErr_turns (s : State) (x : ErrCode) : (s.setErr x).turns = s.turns := rfl
@[simp] theorem State.setErr_cb (s : State) (x : ErrCode) : (s.setErr x).cb = s.cb := rfl
@[simp] theorem State.setErr_setErr (s : State) (x y : ErrCode) : (s.setErr x).setErr y = s.setErr y := rfl
@[simp] theorem State.setErr_self (s : State) : s.setErr s.err = s := rfl

@[simp] theorem State.setClamp_cfg (s : State) (x : BitVec 6) : (s.setClamp x).cfg = s.cfg := rfl
@[simp] theorem State.setClamp_ops (s : State) (x : BitVec 6) : (s.setClamp x).ops = s.ops := rfl
@[simp] theorem State.setClamp_res (s : State) (x : BitVec 6) : (s.setClamp x).res = s.res := rfl
@[simp] theorem State.setClamp_seq (s : State) (x : BitVec 6) : (s.setClamp x).seq = s.seq := rfl
@[simp] theorem State.setClamp_err (s : State) (x : BitVec 6) : (s.setClamp x).err = s.err := rfl
@[simp] theorem State.setClamp_clamp (s : State) (x : BitVec 6) : (s.setClamp x).clamp = x := rfl
@[simp] theorem State.setClamp_clkreq (s : State) (x : BitVec 6) : (s.setClamp x).clkreq = s.clkreq := rfl
@[simp] theorem State.setClamp_flreq (s : State) (x : BitVec 6) : (s.setClamp x).flreq = s.flreq := rfl
@[simp] theorem State.setClamp_ckflags (s : State) (x : BitVec 6) : (s.setClamp x).ckflags = s.ckflags := rfl
@[simp] theorem State.setClamp_freqs (s : State) (x : BitVec 6) : (s.setClamp x).freqs = s.freqs := rfl
@[simp] theorem State.setClamp_clkValid (s : State) (x : BitVec 6) : (s.setClamp x).clkValid = s.clkValid := rfl
@[simp] theorem State.setClamp_img (s : State) (x : BitVec 6) : (s.setClamp x).img = s.img := rfl
@[simp] theorem State.setClamp_st (s : State) (x : BitVec 6) : (s.setClamp x).st = s.st := rfl
@[simp] theorem State.setClamp_tick (s : State) (x : BitVec 6) : (s.setClamp x).tick = s.tick := rfl
@[simp] theorem State.setClamp_tim (s : State) (x : BitVec 6) : (s.setClamp x).tim = s.tim := rfl
@[simp] theorem State.setClamp_pwm (s : State) (x : BitVec 6) : (s.setClamp x).pwm = s.pwm := rfl
@[simp] theorem State.setClamp_nvicEn (s : State) (x : BitVec 6) : (s.setClamp x).nvicEn = s.nvicEn := rfl
@[simp] theorem State.setClamp_inputs (s : State) (x : BitVec 6) : (s.setClamp x).inputs = s.inputs := rfl
@[simp] theorem State.setClamp_host (s : State) (x : BitVec 6) : (s.setClamp x).host = s.host := rfl
@[simp] theorem State.setClamp_turns (s : State) (x : BitVec 6) : (s.setClamp x).turns = s.turns := rfl
@[simp] theorem State.setClamp_cb (s : State) (x : BitVec 6) : (s.setClamp x).cb = s.cb := rfl
@[simp] theorem State.setClamp_setClamp (s : State) (x y : BitVec 6) : (s.setClamp x).setClamp y = s.setClamp y := rfl
@[simp] theorem State.setClamp_self (s : State) : s.setClamp s.clamp = s := rfl

@[simp] theorem State.setClkreq_cfg (s : State) (x : Word) : (s.setClkreq x).cfg = s.cfg := rfl
@[simp] theorem State.setClkreq_ops (s : State) (x : Word) : (s.setClkreq x).ops = s.ops := rfl
@[simp] theorem State.setClkreq_res (s : State) (x : Word) : (s.setClkreq x).res = s.res := rfl
@[simp] theorem State.setClkreq_seq (s : State) (x : Word) : (s.setClkreq x).seq = s.seq := rfl
@[simp] theorem State.setClkreq_err (s : State) (x : Word) : (s.setClkreq x).err = s.err := rfl
@[simp] theorem State.setClkreq_clamp (s : State) (x : Word) : (s.setClkreq x).clamp = s.clamp := rfl
@[simp] theorem State.setClkreq_clkreq (s : State) (x : Word) : (s.setClkreq x).clkreq = x := rfl
@[simp] theorem State.setClkreq_flreq (s : State) (x : Word) : (s.setClkreq x).flreq = s.flreq := rfl
@[simp] theorem State.setClkreq_ckflags (s : State) (x : Word) : (s.setClkreq x).ckflags = s.ckflags := rfl
@[simp] theorem State.setClkreq_freqs (s : State) (x : Word) : (s.setClkreq x).freqs = s.freqs := rfl
@[simp] theorem State.setClkreq_clkValid (s : State) (x : Word) : (s.setClkreq x).clkValid = s.clkValid := rfl
@[simp] theorem State.setClkreq_img (s : State) (x : Word) : (s.setClkreq x).img = s.img := rfl
@[simp] theorem State.setClkreq_st (s : State) (x : Word) : (s.setClkreq x).st = s.st := rfl
@[simp] theorem State.setClkreq_tick (s : State) (x : Word) : (s.setClkreq x).tick = s.tick := rfl
@[simp] theorem State.setClkreq_tim (s : State) (x : Word) : (s.setClkreq x).tim = s.tim := rfl
@[simp] theorem State.setClkreq_pwm (s : State) (x : Word) : (s.setClkreq x).pwm = s.pwm := rfl
@[simp] theorem State.setClkreq_nvicEn (s : State) (x : Word) : (s.setClkreq x).nvicEn = s.nvicEn := rfl
@[simp] theorem State.setClkreq_inputs (s : State) (x : Word) : (s.setClkreq x).inputs = s.inputs := rfl
@[simp] theorem State.setClkreq_host (s : State) (x : Word) : (s.setClkreq x).host = s.host := rfl
@[simp] theorem State.setClkreq_turns (s : State) (x : Word) : (s.setClkreq x).turns = s.turns := rfl
@[simp] theorem State.setClkreq_cb (s : State) (x : Word) : (s.setClkreq x).cb = s.cb := rfl
@[simp] theorem State.setClkreq_setClkreq (s : State) (x y : Word) : (s.setClkreq x).setClkreq y = s.setClkreq y := rfl
@[simp] theorem State.setClkreq_self (s : State) : s.setClkreq s.clkreq = s := rfl

@[simp] theorem State.setFlreq_cfg (s : State) (x : Word) : (s.setFlreq x).cfg = s.cfg := rfl
@[simp] theorem State.setFlreq_ops (s : State) (x : Word) : (s.setFlreq x).ops = s.ops := rfl
@[simp] theorem State.setFlreq_res (s : State) (x : Word) : (s.setFlreq x).res = s.res := rfl
@[simp] theorem State.setFlreq_seq (s : State) (x : Word) : (s.setFlreq x).seq = s.seq := rfl
@[simp] theorem State.setFlreq_err (s : State) (x : Word) : (s.setFlreq x).err = s.err := rfl
@[simp] theorem State.setFlreq_clamp (s : State) (x : Word) : (s.setFlreq x).clamp = s.clamp := rfl
@[simp] theorem State.setFlreq_clkreq (s : State) (x : Word) : (s.setFlreq x).clkreq = s.clkreq := rfl
@[simp] theorem State.setFlreq_flreq (s : State) (x : Word) : (s.setFlreq x).flreq = x := rfl
@[simp] theorem State.setFlreq_ckflags (s : State) (x : Word) : (s.setFlreq x).ckflags = s.ckflags := rfl
@[simp] theorem State.setFlreq_freqs (s : State) (x : Word) : (s.setFlreq x).freqs = s.freqs := rfl
@[simp] theorem State.setFlreq_clkValid (s : State) (x : Word) : (s.setFlreq x).clkValid = s.clkValid := rfl
@[simp] theorem State.setFlreq_img (s : State) (x : Word) : (s.setFlreq x).img = s.img := rfl
@[simp] theorem State.setFlreq_st (s : State) (x : Word) : (s.setFlreq x).st = s.st := rfl
@[simp] theorem State.setFlreq_tick (s : State) (x : Word) : (s.setFlreq x).tick = s.tick := rfl
@[simp] theorem State.setFlreq_tim (s : State) (x : Word) : (s.setFlreq x).tim = s.tim := rfl
@[simp] theorem State.setFlreq_pwm (s : State) (x : Word) : (s.setFlreq x).pwm = s.pwm := rfl
@[simp] theorem State.setFlreq_nvicEn (s : State) (x : Word) : (s.setFlreq x).nvicEn = s.nvicEn := rfl
@[simp] theorem State.setFlreq_inputs (s : State) (x : Word) : (s.setFlreq x).inputs = s.inputs := rfl
@[simp] theorem State.setFlreq_host (s : State) (x : Word) : (s.setFlreq x).host = s.host := rfl
@[simp] theorem State.setFlreq_turns (s : State) (x : Word) : (s.setFlreq x).turns = s.turns := rfl
@[simp] theorem State.setFlreq_cb (s : State) (x : Word) : (s.setFlreq x).cb = s.cb := rfl
@[simp] theorem State.setFlreq_setFlreq (s : State) (x y : Word) : (s.setFlreq x).setFlreq y = s.setFlreq y := rfl
@[simp] theorem State.setFlreq_self (s : State) : s.setFlreq s.flreq = s := rfl

@[simp] theorem State.setCkflags_cfg (s : State) (x : BitVec 6) : (s.setCkflags x).cfg = s.cfg := rfl
@[simp] theorem State.setCkflags_ops (s : State) (x : BitVec 6) : (s.setCkflags x).ops = s.ops := rfl
@[simp] theorem State.setCkflags_res (s : State) (x : BitVec 6) : (s.setCkflags x).res = s.res := rfl
@[simp] theorem State.setCkflags_seq (s : State) (x : BitVec 6) : (s.setCkflags x).seq = s.seq := rfl
@[simp] theorem State.setCkflags_err (s : State) (x : BitVec 6) : (s.setCkflags x).err = s.err := rfl
@[simp] theorem State.setCkflags_clamp (s : State) (x : BitVec 6) : (s.setCkflags x).clamp = s.clamp := rfl
@[simp] theorem State.setCkflags_clkreq (s : State) (x : BitVec 6) : (s.setCkflags x).clkreq = s.clkreq := rfl
@[simp] theorem State.setCkflags_flreq (s : State) (x : BitVec 6) : (s.setCkflags x).flreq = s.flreq := rfl
@[simp] theorem State.setCkflags_ckflags (s : State) (x : BitVec 6) : (s.setCkflags x).ckflags = x := rfl
@[simp] theorem State.setCkflags_freqs (s : State) (x : BitVec 6) : (s.setCkflags x).freqs = s.freqs := rfl
@[simp] theorem State.setCkflags_clkValid (s : State) (x : BitVec 6) : (s.setCkflags x).clkValid = s.clkValid := rfl
@[simp] theorem State.setCkflags_img (s : State) (x : BitVec 6) : (s.setCkflags x).img = s.img := rfl
@[simp] theorem State.setCkflags_st (s : State) (x : BitVec 6) : (s.setCkflags x).st = s.st := rfl
@[simp] theorem State.setCkflags_tick (s : State) (x : BitVec 6) : (s.setCkflags x).tick = s.tick := rfl
@[simp] theorem State.setCkflags_tim (s : State) (x : BitVec 6) : (s.setCkflags x).tim = s.tim := rfl
@[simp] theorem State.setCkflags_pwm (s : State) (x : BitVec 6) : (s.setCkflags x).pwm = s.pwm := rfl
@[simp] theorem State.setCkflags_nvicEn (s : State) (x : BitVec 6) : (s.setCkflags x).nvicEn = s.nvicEn := rfl
@[simp] theorem State.setCkflags_inputs (s : State) (x : BitVec 6) : (s.setCkflags x).inputs = s.inputs := rfl
@[simp] theorem State.setCkflags_host (s : State) (x : BitVec 6) : (s.setCkflags x).host = s.host := rfl
@[simp] theorem State.setCkflags_turns (s : State) (x : BitVec 6) : (s.setCkflags x).turns = s.turns := rfl
@[simp] theorem State.setCkflags_cb (s : State) (x : BitVec 6) : (s.setCkflags x).cb = s.cb := rfl
@[simp] theorem State.setCkflags_setCkflags (s : State) (x y : BitVec 6) : (s.setCkflags x).setCkflags y = s.setCkflags y := rfl
@[simp] theorem State.setCkflags_self (s : State) : s.setCkflags s.ckflags = s := rfl

@[simp] theorem State.setFreqs_cfg (s : State) (x : Freqs) : (s.setFreqs x).cfg = s.cfg := rfl
@[simp] theorem State.setFreqs_ops (s : State) (x : Freqs) : (s.setFreqs x).ops = s.ops := rfl
@[simp] theorem State.setFreqs_res (s : State) (x : Freqs) : (s.setFreqs x).res = s.res := rfl
@[simp] theorem State.setFreqs_seq (s : State) (x : Freqs) : (s.setFreqs x).seq = s.seq := rfl
@[simp] theorem State.setFreqs_err (s : State) (x : Freqs) : (s.setFreqs x).err = s.err := rfl
@[simp] theorem State.setFreqs_clamp (s : State) (x : Freqs) : (s.setFreqs x).clamp = s.clamp := rfl
@[simp] theorem State.setFreqs_clkreq (s : State) (x : Freqs) : (s.setFreqs x).clkreq = s.clkreq := rfl
@[simp] theorem State.setFreqs_flreq (s : State) (x : Freqs) : (s.setFreqs x).flreq = s.flreq := rfl
@[simp] theorem State.setFreqs_ckflags (s : State) (x : Freqs) : (s.setFreqs x).ckflags = s.ckflags := rfl
@[simp] theorem State.setFreqs_freqs (s : State) (x : Freqs) : (s.setFreqs x).freqs = x := rfl
@[simp] theorem State.setFreqs_clkValid (s : State) (x : Freqs) : (s.setFreqs x).clkValid = s.clkValid := rfl
@[simp] theorem State.setFreqs_img (s : State) (x : Freqs) : (s.setFreqs x).img = s.img := rfl
@[simp] theorem State.setFreqs_st (s : State) (x : Freqs) : (s.setFreqs x).st = s.st := rfl
@[simp] theorem State.setFreqs_tick (s : State) (x : Freqs) : (s.setFreqs x).tick = s.tick := rfl
@[simp] theorem State.setFreqs_tim (s : State) (x : Freqs) : (s.setFreqs x).tim = s.tim := rfl
@[simp] theorem State.setFreqs_pwm (s : State) (x : Freqs) : (s.setFreqs x).pwm = s.pwm := rfl
@[simp] theorem State.setFreqs_nvicEn (s : State) (x : Freqs) : (s.setFreqs x).nvicEn = s.nvicEn := rfl
@[simp] theorem State.setFreqs_inputs (s : State) (x : Freqs) : (s.setFreqs x).inputs = s.inputs := rfl
@[simp] theorem State.setFreqs_host (s : State) (x : Freqs) : (s.setFreqs x).host = s.host := rfl
@[simp] theorem State.setFreqs_turns (s : State) (x : Freqs) : (s.setFreqs x).turns = s.turns := rfl
@[simp] theorem State.setFreqs_cb (s : State) (x : Freqs) : (s.setFreqs x).cb = s.cb := rfl
@[simp] theorem State.setFreqs_setFreqs (s : State) (x y : Freqs) : (s.setFreqs x).setFreqs y = s.setFreqs y := rfl
@[simp] theorem State.setFreqs_self (s : State) : s.setFreqs s.freqs = s := rfl

@[simp] theorem State.setClkValid_cfg (s : State) (x : Bool) : (s.setClkValid x).cfg = s.cfg := rfl
@[simp] theorem State.setClkValid_ops (s : State) (x : Bool) : (s.setClkValid x).ops = s.ops := rfl
@[simp] theorem State.setClkValid_res (s : State) (x : Bool) : (s.setClkValid x).res = s.res := rfl
@[simp] theorem State.setClkValid_seq (s : State) (x : Bool) : (s.setClkValid x).seq = s.seq := rfl
@[simp] theorem State.setClkValid_err (s : State) (x : Bool) : (s.setClkValid x).err = s.err := rfl
@[simp] theorem State.setClkValid_clamp (s : State) (x : Bool) : (s.setClkValid x).clamp = s.clamp := rfl
@[simp] theorem State.setClkValid_clkreq (s : State) (x : Bool) : (s.setClkValid x).clkreq = s.clkreq := rfl
@[simp] theorem State.setClkValid_flreq (s : State) (x : Bool) : (s.setClkValid x).flreq = s.flreq := rfl
@[simp] theorem State.setClkValid_ckflags (s : State) (x : Bool) : (s.setClkValid x).ckflags = s.ckflags := rfl
@[simp] theorem State.setClkValid_freqs (s : State) (x : Bool) : (s.setClkValid x).freqs = s.freqs := rfl
@[simp] theorem State.setClkValid_clkValid (s : State) (x : Bool) : (s.setClkValid x).clkValid = x := rfl
@[simp] theorem State.setClkValid_img (s : State) (x : Bool) : (s.setClkValid x).img = s.img := rfl
@[simp] theorem State.setClkValid_st (s : State) (x : Bool) : (s.setClkValid x).st = s.st := rfl
@[simp] theorem State.setClkValid_tick (s : State) (x : Bool) : (s.setClkValid x).tick = s.tick := rfl
@[simp] theorem State.setClkValid_tim (s : State) (x : Bool) : (s.setClkValid x).tim = s.tim := rfl
@[simp] theorem State.setClkValid_pwm (s : State) (x : Bool) : (s.setClkValid x).pwm = s.pwm := rfl
@[simp] theorem State.setClkValid_nvicEn (s : State) (x : Bool) : (s.setClkValid x).nvicEn = s.nvicEn := rfl
@[simp] theorem State.setClkValid_inputs (s : State) (x : Bool) : (s.setClkValid x).inputs = s.inputs := rfl
@[simp] theorem State.setClkValid_host (s : State) (x : Bool) : (s.setClkValid x).host = s.host := rfl
@[simp] theorem State.setClkValid_turns (s : State) (x : Bool) : (s.setClkValid x).turns = s.turns := rfl
@[simp] theorem State.setClkValid_cb (s : State) (x : Bool) : (s.setClkValid x).cb = s.cb := rfl
@[simp] theorem State.setClkValid_setClkValid (s : State) (x y : Bool) : (s.setClkValid x).setClkValid y = s.setClkValid y := rfl
@[simp] theorem State.setClkValid_self (s : State) : s.setClkValid s.clkValid = s := rfl

@[simp] theorem State.setImg_cfg (s : State) (x : ClockImages) : (s.setImg x).cfg = s.cfg := rfl
@[simp] theorem State.setImg_ops (s : State) (x : ClockImages) : (s.setImg x).ops = s.ops := rfl
@[simp] theorem State.setImg_res (s : State) (x : ClockImages) : (s.setImg x).res = s.res := rfl
@[simp] theorem State.setImg_seq (s : State) (x : ClockImages) : (s.setImg x).seq = s.seq := rfl
@[simp] theorem State.setImg_err (s : State) (x : ClockImages) : (s.setImg x).err = s.err := rfl
@[simp] theorem State.setImg_clamp (s : State) (x : ClockImages) : (s.setImg x).clamp = s.clamp := rfl
@[simp] theorem State.setImg_clkreq (s : State) (x : ClockImages) : (s.setImg x).clkreq = s.clkreq := rfl
@[simp] theorem State.setImg_flreq (s : State) (x : ClockImages) : (s.setImg x).flreq = s.flreq := rfl
@[simp] theorem State.setImg_ckflags (s : State) (x : ClockImages) : (s.setImg x).ckflags = s.ckflags := rfl
@[simp] theorem State.setImg_freqs (s : State) (x : ClockImages) : (s.setImg x).freqs = s.freqs := rfl
@[simp] theorem State.setImg_clkValid (s : State) (x : ClockImages) : (s.setImg x).clkValid = s.clkValid := rfl
@[simp] theorem State.setImg_img (s : State) (x : ClockImages) : (s.setImg x).img = x := rfl
@[simp] theorem State.setImg_st (s : State) (x : ClockImages) : (s.setImg x).st = s.st := rfl
@[simp] theorem State.setImg_tick (s : State) (x : ClockImages) : (s.setImg x).tick = s.tick := rfl
@[simp] theorem State.setImg_tim (s : State) (x : ClockImages) : (s.setImg x).tim = s.tim := rfl
@[simp] theorem State.setImg_pwm (s : State) (x : ClockImages) : (s.setImg x).pwm = s.pwm := rfl
@[simp] theorem State.setImg_nvicEn (s : State) (x : ClockImages) : (s.setImg x).nvicEn = s.nvicEn := rfl
@[simp] theorem State.setImg_inputs (s : State) (x : ClockImages) : (s.setImg x).inputs = s.inputs := rfl
@[simp] theorem State.setImg_host (s : State) (x : ClockImages) : (s.setImg x).host = s.host := rfl
@[simp] theorem State.setImg_turns (s : State) (x : ClockImages) : (s.setImg x).turns = s.turns := rfl
@[simp] theorem State.setImg_cb (s : State) (x : ClockImages) : (s.setImg x).cb = s.cb := rfl
@[simp] theorem State.setImg_setImg (s : State) (x y : ClockImages) : (s.setImg x).setImg y = s.setImg y := rfl
@[simp] theorem State.setImg_self (s : State) : s.setImg s.img = s := rfl

@[simp] theorem State.setSt_cfg (s : State) (x : SysTick) : (s.setSt x).cfg = s.cfg := rfl
@[simp] theorem State.setSt_ops (s : State) (x : SysTick) : (s.setSt x).ops = s.ops := rfl
@[simp] theorem State.setSt_res (s : State) (x : SysTick) : (s.setSt x).res = s.res := rfl
@[simp] theorem State.setSt_seq (s : State) (x : SysTick) : (s.setSt x).seq = s.seq := rfl
@[simp] theorem State.setSt_err (s : State) (x : SysTick) : (s.setSt x).err = s.err := rfl
@[simp] theorem State.setSt_clamp (s : State) (x : SysTick) : (s.setSt x).clamp = s.clamp := rfl
@[simp] theorem State.setSt_clkreq (s : State) (x : SysTick) : (s.setSt x).clkreq = s.clkreq := rfl
@[simp] theorem State.setSt_flreq (s : State) (x : SysTick) : (s.setSt x).flreq = s.flreq := rfl
@[simp] theorem State.setSt_ckflags (s : State) (x : SysTick) : (s.setSt x).ckflags = s.ckflags := rfl
@[simp] theorem State.setSt_freqs (s : State) (x : SysTick) : (s.setSt x).freqs = s.freqs := rfl
@[simp] theorem State.setSt_clkValid (s : State) (x : SysTick) : (s.setSt x).clkValid = s.clkValid := rfl
@[simp] theorem State.setSt_img (s : State) (x : SysTick) : (s.setSt x).img = s.img := rfl
@[simp] theorem State.setSt_st (s : State) (x : SysTick) : (s.setSt x).st = x := rfl
@[simp] theorem State.setSt_tick (s : State) (x : SysTick) : (s.setSt x).tick = s.tick := rfl
@[simp] theorem State.setSt_tim (s : State) (x : SysTick) : (s.setSt x).tim = s.tim := rfl
@[simp] theorem State.setSt_pwm (s : State) (x : SysTick) : (s.setSt x).pwm = s.pwm := rfl
@[simp] theorem State.setSt_nvicEn (s : State) (x : SysTick) : (s.setSt x).nvicEn = s.nvicEn := rfl
@[simp] theorem State.setSt_inputs (s : State) (x : SysTick) : (s.setSt x).inputs = s.inputs := rfl
@[simp] theorem State.setSt_host (s : State) (x : SysTick) : (s.setSt x).host = s.host := rfl
@[simp] theorem State.setSt_turns (s : State) (x : SysTick) : (s.setSt x).turns = s.turns := rfl
@[simp] theorem State.setSt_cb (s : State) (x : SysTick) : (s.setSt x).cb = s.cb := rfl
@[simp] theorem State.setSt_setSt (s : State) (x y : SysTick) : (s.setSt x).setSt y = s.setSt y := rfl
@[simp] theorem State.setSt_self (s : State) : s.setSt s.st = s := rfl

@[simp] theorem State.setTick_cfg (s : State) (x : BitVec 64) : (s.setTick x).cfg = s.cfg := rfl
@[simp] theorem State.setTick_ops (s : State) (x : BitVec 64) : (s.setTick x).ops = s.ops := rfl
@[simp] theorem State.setTick_res (s : State) (x : BitVec 64) : (s.setTick x).res = s.res := rfl
@[simp] theorem State.setTick_seq (s : State) (x : BitVec 64) : (s.setTick x).seq = s.seq := rfl
@[simp] theorem State.setTick_err (s : State) (x : BitVec 64) : (s.setTick x).err = s.err := rfl
@[simp] theorem State.setTick_clamp (s : State) (x : BitVec 64) : (s.setTick x).clamp = s.clamp := rfl
@[simp] theorem State.setTick_clkreq (s : State) (x : BitVec 64) : (s.setTick x).clkreq = s.clkreq := rfl
@[simp] theorem State.setTick_flreq (s : State) (x : BitVec 64) : (s.setTick x).flreq = s.flreq := rfl
@[simp] theorem State.setTick_ckflags (s : State) (x : BitVec 64) : (s.setTick x).ckflags = s.ckflags := rfl
@[simp] theorem State.setTick_freqs (s : State) (x : BitVec 64) : (s.setTick x).freqs = s.freqs := rfl
@[simp] theorem State.setTick_clkValid (s : State) (x : BitVec 64) : (s.setTick x).clkValid = s.clkValid := rfl
@[simp] theorem State.setTick_img (s : State) (x : BitVec 64) : (s.setTick x).img = s.img := rfl
@[simp] theorem State.setTick_st (s : State) (x : BitVec 64) : (s.setTick x).st = s.st := rfl
@[simp] theorem State.setTick_tick (s : State) (x : BitVec 64) : (s.setTick x).tick = x := rfl
@[simp] theorem State.setTick_tim (s : State) (x : BitVec 64) : (s.setTick x).tim = s.tim := rfl
@[simp] theorem State.setTick_pwm (s : State) (x : BitVec 64) : (s.setTick x).pwm = s.pwm := rfl
@[simp] theorem State.setTick_nvicEn (s : State) (x : BitVec 64) : (s.setTick x).nvicEn = s.nvicEn := rfl
@[simp] theorem State.setTick_inputs (s : State) (x : BitVec 64) : (s.setTick x).inputs = s.inputs := rfl
@[simp] theorem State.setTick_host (s : State) (x : BitVec 64) : (s.setTick x).host = s.host := rfl
@[simp] theorem State.setTick_turns (s : State) (x : BitVec 64) : (s.setTick x).turns = s.turns := rfl
@[simp] theorem State.setTick_cb (s : State) (x : BitVec 64) : (s.setTick x).cb = s.cb := rfl
@[simp] theorem State.setTick_setTick (s : State) (x y : BitVec 64) : (s.setTick x).setTick y = s.setTick y := rfl
@[simp] theorem State.setTick_self (s : State) : s.setTick s.tick = s := rfl

@[simp] theorem State.setTim_cfg (s : State) (x : PerTimer Timer) : (s.setTim x).cfg = s.cfg := rfl
@[simp] theorem State.setTim_ops (s : State) (x : PerTimer Timer) : (s.setTim x).ops = s.ops := rfl
@[simp] theorem State.setTim_res (s : State) (x : PerTimer Timer) : (s.setTim x).res = s.res := rfl
@[simp] theorem State.setTim_seq (s : State) (x : PerTimer Timer) : (s.setTim x).seq = s.seq := rfl
@[simp] theorem State.setTim_err (s : State) (x : PerTimer Timer) : (s.setTim x).err = s.err := rfl
@[simp] theorem State.setTim_clamp (s : State) (x : PerTimer Timer) : (s.setTim x).clamp = s.clamp := rfl
@[simp] theorem State.setTim_clkreq (s : State) (x : PerTimer Timer) : (s.setTim x).clkreq = s.clkreq := rfl
@[simp] theorem State.setTim_flreq (s : State) (x : PerTimer Timer) : (s.setTim x).flreq = s.flreq := rfl
@[simp] theorem State.setTim_ckflags (s : State) (x : PerTimer Timer) : (s.setTim x).ckflags = s.ckflags := rfl
@[simp] theorem State.setTim_freqs (s : State) (x : PerTimer Timer) : (s.setTim x).freqs = s.freqs := rfl
@[simp] theorem State.setTim_clkValid (s : State) (x : PerTimer Timer) : (s.setTim x).clkValid = s.clkValid := rfl
@[simp] theorem State.setTim_img (s : State) (x : PerTimer Timer) : (s.setTim x).img = s.img := rfl
@[simp] theorem State.setTim_st (s : State) (x : PerTimer Timer) : (s.setTim x).st = s.st := rfl
@[simp] theorem State.setTim_tick (s : State) (x : PerTimer Timer) : (s.setTim x).tick = s.tick := rfl
@[simp] theorem State.setTim_tim (s : State) (x : PerTimer Timer) : (s.setTim x).tim = x := rfl
@[simp] theorem State.setTim_pwm (s : State) (x : PerTimer Timer) : (s.setTim x).pwm = s.pwm := rfl
@[simp] theorem State.setTim_nvicEn (s : State) (x : PerTimer Timer) : (s.setTim x).nvicEn = s.nvicEn := rfl
@[simp] theorem State.setTim_inputs (s : State) (x : PerTimer Timer) : (s.setTim x).inputs = s.inputs := rfl
@[simp] theorem State.setTim_host (s : State) (x : PerTimer Timer) : (s.setTim x).host = s.host := rfl
@[simp] theorem State.setTim_turns (s : State) (x : PerTimer Timer) : (s.setTim x).turns = s.turns := rfl
@[simp] theorem State.setTim_cb (s : State) (x : PerTimer Timer) : (s.setTim x).cb = s.cb := rfl
@[simp] theorem State.setTim_setTim (s : State) (x y : PerTimer Timer) : (s.setTim x).setTim y = s.setTim y := rfl
@[simp] theorem State.setTim_self (s : State) : s.setTim s.tim = s := rfl

@[simp] theorem State.setPwm_cfg (s : State) (x : PerTimer (PerChan Channel)) : (s.setPwm x).cfg = s.cfg := rfl
@[simp] theorem State.setPwm_ops (s : State) (x : PerTimer (PerChan Channel)) : (s.setPwm x).ops = s.ops := rfl
@[simp] theorem State.setPwm_res (s : State) (x : PerTimer (PerChan Channel)) : (s.setPwm x).res = s.res := rfl
@[simp] theorem State.setPwm_seq (s : State) (x : PerTimer (PerChan Channel)) : (s.setPwm x).seq = s.seq := rfl
@[simp] theorem State.setPwm_err (s : State) (x : PerTimer (PerChan Channel)) : (s.setPwm x).err = s.err := rfl
@[simp] theorem State.setPwm_clamp (s : State) (x : PerTimer (PerChan Channel)) : (s.setPwm x).clamp = s.clamp := rfl
@[simp] theorem State.setPwm_clkreq (s : State) (x : PerTimer (PerChan Channel)) : (s.setPwm x).clkreq = s.clkreq := rfl
@[simp] theorem State.setPwm_flreq (s : State) (x : PerTimer (PerChan Channel)) : (s.setPwm x).flreq = s.flreq := rfl
@[simp] theorem State.setPwm_ckflags (s : State) (x : PerTimer (PerChan Channel)) : (s.setPwm x).ckflags = s.ckflags := rfl
@[simp] theorem State.setPwm_freqs (s : State) (x : PerTimer (PerChan Channel)) : (s.setPwm x).freqs = s.freqs := rfl
@[simp] theorem State.setPwm_clkValid (s : State) (x : PerTimer (PerChan Channel)) : (s.setPwm x).clkValid = s.clkValid := rfl
@[simp] theorem State.setPwm_img (s : State) (x : PerTimer (PerChan Channel)) : (s.setPwm x).img = s.img := rfl
@[simp] theorem State.setPwm_st (s : State) (x : PerTimer (PerChan Channel)) : (s.setPwm x).st = s.st := rfl
@[simp] theorem State.setPwm_tick (s : State) (x : PerTimer (PerChan Channel)) : (s.setPwm x).tick = s.tick := rfl
@[simp] theorem State.setPwm_tim (s : State) (x : PerTimer (PerChan Channel)) : (s.setPwm x).tim = s.tim := rfl
@[simp] theorem State.setPwm_pwm (s : State) (x : PerTimer (PerChan Channel)) : (s.setPwm x).pwm = x := rfl
@[simp] theorem State.setPwm_nvicEn (s : State) (x : PerTimer (PerChan Channel)) : (s.setPwm x).nvicEn = s.nvicEn := rfl
@[simp] theorem State.setPwm_inputs (s : State) (x : PerTimer (PerChan Channel)) : (s.setPwm x).inputs = s.inputs := rfl
@[simp] theorem State.setPwm_host (s : State) (x : PerTimer (PerChan Channel)) : (s.setPwm x).host = s.host := rfl
@[simp] theorem State.setPwm_turns (s : State) (x : PerTimer (PerChan Channel)) : (s.setPwm x).turns = s.turns := rfl
@[simp] theorem State.setPwm_cb (s : State) (x : PerTimer (PerChan Channel)) : (s.setPwm x).cb = s.cb := rfl
@[simp] theorem State.setPwm_setPwm (s : State) (x y : PerTimer (PerChan Channel)) : (s.setPwm x).setPwm y = s.setPwm y := rfl
@[simp] theorem State.setPwm_self (s : State) : s.setPwm s.pwm = s := rfl

@[simp] theorem State.setNvicEn_cfg (s : State) (x : PerTimer Bool) : (s.setNvicEn x).cfg = s.cfg := rfl
@[simp] theorem State.setNvicEn_ops (s : State) (x : PerTimer Bool) : (s.setNvicEn x).ops = s.ops := rfl
@[simp] theorem State.setNvicEn_res (s : State) (x : PerTimer Bool) : (s.setNvicEn x).res = s.res := rfl
@[simp] theorem State.setNvicEn_seq (s : State) (x : PerTimer Bool) : (s.setNvicEn x).seq = s.seq := rfl
@[simp] theorem State.setNvicEn_err (s : State) (x : PerTimer Bool) : (s.setNvicEn x).err = s.err := rfl
@[simp] theorem State.setNvicEn_clamp (s : State) (x : PerTimer Bool) : (s.setNvicEn x).clamp = s.clamp := rfl
@[simp] theorem State.setNvicEn_clkreq (s : State) (x : PerTimer Bool) : (s.setNvicEn x).clkreq = s.clkreq := rfl
@[simp] theorem State.setNvicEn_flreq (s : State) (x : PerTimer Bool) : (s.setNvicEn x).flreq = s.flreq := rfl
@[simp] theorem State.setNvicEn_ckflags (s : State) (x : PerTimer Bool) : (s.setNvicEn x).ckflags = s.ckflags := rfl
@[simp] theorem State.setNvicEn_freqs (s : State) (x : PerTimer Bool) : (s.setNvicEn x).freqs = s.freqs := rfl
@[simp] theorem State.setNvicEn_clkValid (s : State) (x : PerTimer Bool) : (s.setNvicEn x).clkValid = s.clkValid := rfl
@[simp] theorem State.setNvicEn_img (s : State) (x : PerTimer Bool) : (s.setNvicEn x).img = s.img := rfl
@[simp] theorem State.setNvicEn_st (s : State) (x : PerTimer Bool) : (s.setNvicEn x).st = s.st := rfl
@[simp] theorem State.setNvicEn_tick (s : State) (x : PerTimer Bool) : (s.setNvicEn x).tick = s.tick := rfl
@[simp] theorem State.setNvicEn_tim (s : State) (x : PerTimer Bool) : (s.setNvicEn x).tim = s.tim := rfl
@[simp] theorem State.setNvicEn_pwm (s : State) (x : PerTimer Bool) : (s.setNvicEn x).pwm = s.pwm := rfl
@[simp] theorem State.setNvicEn_nvicEn (s : State) (x : PerTimer Bool) : (s.setNvicEn x).nvicEn = x := rfl
@[simp] theorem State.setNvicEn_inputs (s : State) (x : PerTimer Bool) : (s.setNvicEn x).inputs = s.inputs := rfl
@[simp] theorem State.setNvicEn_host (s : State) (x : PerTimer Bool) : (s.setNvicEn x).host = s.host := rfl
@[simp] theorem State.setNvicEn_turns (s : State) (x : PerTimer Bool) : (s.setNvicEn x).turns = s.turns := rfl
@[simp] theorem State.setNvicEn_cb (s : State) (x : PerTimer Bool) : (s.setNvicEn x).cb = s.cb := rfl
@[simp] theorem State.setNvicEn_setNvicEn (s : State) (x y : PerTimer Bool) : (s.setNvicEn x).setNvicEn y = s.setNvicEn y := rfl
@[simp] theorem State.setNvicEn_self (s : State) : s.setNvicEn s.nvicEn = s := rfl

@[simp] theorem State.setInputs_cfg (s : State) (x : ClkInputs) : (s.setInputs x).cfg = s.cfg := rfl
@[simp] theorem State.setInputs_ops (s : State) (x : ClkInputs) : (s.setInputs x).ops = s.ops := rfl
@[simp] theorem State.setInputs_res (s : State) (x : ClkInputs) : (s.setInputs x).res = s.res := rfl
@[simp] theorem State.setInputs_seq (s : State) (x : ClkInputs) : (s.setInputs x).seq = s.seq := rfl
@[simp] theorem State.setInputs_err (s : State) (x : ClkInputs) : (s.setInputs x).err = s.err := rfl
@[simp] theorem State.setInputs_clamp (s : State) (x : ClkInputs) : (s.setInputs x).clamp = s.clamp := rfl
@[simp] theorem State.setInputs_clkreq (s : State) (x : ClkInputs) : (s.setInputs x).clkreq = s.clkreq := rfl
@[simp] theorem State.setInputs_flreq (s : State) (x : ClkInputs) : (s.setInputs x).flreq = s.flreq := rfl
@[simp] theorem State.setInputs_ckflags (s : State) (x : ClkInputs) : (s.setInputs x).ckflags = s.ckflags := rfl
@[simp] theorem State.setInputs_freqs (s : State) (x : ClkInputs) : (s.setInputs x).freqs = s.freqs := rfl
@[simp] theorem State.setInputs_clkValid (s : State) (x : ClkInputs) : (s.setInputs x).clkValid = s.clkValid := rfl
@[simp] theorem State.setInputs_img (s : State) (x : ClkInputs) : (s.setInputs x).img = s.img := rfl
@[simp] theorem State.setInputs_st (s : State) (x : ClkInputs) : (s.setInputs x).st = s.st := rfl
@[simp] theorem State.setInputs_tick (s : State) (x : ClkInputs) : (s.setInputs x).tick = s.tick := rfl
@[simp] theorem State.setInputs_tim (s : State) (x : ClkInputs) : (s.setInputs x).tim = s.tim := rfl
@[simp] theorem State.setInputs_pwm (s : State) (x : ClkInputs) : (s.setInputs x).pwm = s.pwm := rfl
@[simp] theorem State.setInputs_nvicEn (s : State) (x : ClkInputs) : (s.setInputs x).nvicEn = s.nvicEn := rfl
@[simp] theorem State.setInputs_inputs (s : State) (x : ClkInputs) : (s.setInputs x).inputs = x := rfl
@[simp] theorem State.setInputs_host (s : State) (x : ClkInputs) : (s.setInputs x).host = s.host := rfl
@[simp] theorem State.setInputs_turns (s : State) (x : ClkInputs) : (s.setInputs x).turns = s.turns := rfl
@[simp] theorem State.setInputs_cb (s : State) (x : ClkInputs) : (s.setInputs x).cb = s.cb := rfl
@[simp] theorem State.setInputs_setInputs (s : State) (x y : ClkInputs) : (s.setInputs x).setInputs y = s.setInputs y := rfl
@[simp] theorem State.setInputs_self (s : State) : s.setInputs s.inputs = s := rfl

@[simp] theorem State.setHost_cfg (s : State) (x : HostSide) : (s.setHost x).cfg = s.cfg := rfl
@[simp] theorem State.setHost_ops (s : State) (x : HostSide) : (s.setHost x).ops = s.ops := rfl
@[simp] theorem State.setHost_res (s : State) (x : HostSide) : (s.setHost x).res = s.res := rfl
@[simp] theorem State.setHost_seq (s : State) (x : HostSide) : (s.setHost x).seq = s.seq := rfl
@[simp] theorem State.setHost_err (s : State) (x : HostSide) : (s.setHost x).err = s.err := rfl
@[simp] theorem State.setHost_clamp (s : State) (x : HostSide) : (s.setHost x).clamp = s.clamp := rfl
@[simp] theorem State.setHost_clkreq (s : State) (x : HostSide) : (s.setHost x).clkreq = s.clkreq := rfl
@[simp] theorem State.setHost_flreq (s : State) (x : HostSide) : (s.setHost x).flreq = s.flreq := rfl
@[simp] theorem State.setHost_ckflags (s : State) (x : HostSide) : (s.setHost x).ckflags = s.ckflags := rfl
@[simp] theorem State.setHost_freqs (s : State) (x : HostSide) : (s.setHost x).freqs = s.freqs := rfl
@[simp] theorem State.setHost_clkValid (s : State) (x : HostSide) : (s.setHost x).clkValid = s.clkValid := rfl
@[simp] theorem State.setHost_img (s : State) (x : HostSide) : (s.setHost x).img = s.img := rfl
@[simp] theorem State.setHost_st (s : State) (x : HostSide) : (s.setHost x).st = s.st := rfl
@[simp] theorem State.setHost_tick (s : State) (x : HostSide) : (s.setHost x).tick = s.tick := rfl
@[simp] theorem State.setHost_tim (s : State) (x : HostSide) : (s.setHost x).tim = s.tim := rfl
@[simp] theorem State.setHost_pwm (s : State) (x : HostSide) : (s.setHost x).pwm = s.pwm := rfl
@[simp] theorem State.setHost_nvicEn (s : State) (x : HostSide) : (s.setHost x).nvicEn = s.nvicEn := rfl
@[simp] theorem State.setHost_inputs (s : State) (x : HostSide) : (s.setHost x).inputs = s.inputs := rfl
@[simp] theorem State.setHost_host (s : State) (x : HostSide) : (s.setHost x).host = x := rfl
@[simp] theorem State.setHost_turns (s : State) (x : HostSide) : (s.setHost x).turns = s.turns := rfl
@[simp] theorem State.setHost_cb (s : State) (x : HostSide) : (s.setHost x).cb = s.cb := rfl
@[simp] theorem State.setHost_setHost (s : State) (x y : HostSide) : (s.setHost x).setHost y = s.setHost y := rfl
@[simp] theorem State.setHost_self (s : State) : s.setHost s.host = s := rfl

@[simp] theorem State.setTurns_cfg (s : State) (x : List Turn) : (s.setTurns x).cfg = s.cfg := rfl
@[simp] theorem State.setTurns_ops (s : State) (x : List Turn) : (s.setTurns x).ops = s.ops := rfl
@[simp] theorem State.setTurns_res (s : State) (x : List Turn) : (s.setTurns x).res = s.res := rfl
@[simp] theorem State.setTurns_seq (s : State) (x : List Turn) : (s.setTurns x).seq = s.seq := rfl
@[simp] theorem State.setTurns_err (s : State) (x : List Turn) : (s.setTurns x).err = s.err := rfl
@[simp] theorem State.setTurns_clamp (s : State) (x : List Turn) : (s.setTurns x).clamp = s.clamp := rfl
@[simp] theorem State.setTurns_clkreq (s : State) (x : List Turn) : (s.setTurns x).clkreq = s.clkreq := rfl
@[simp] theorem State.setTurns_flreq (s : State) (x : List Turn) : (s.setTurns x).flreq = s.flreq := rfl
@[simp] theorem State.setTurns_ckflags (s : State) (x : List Turn) : (s.setTurns x).ckflags = s.ckflags := rfl
@[simp] theorem State.setTurns_freqs (s : State) (x : List Turn) : (s.setTurns x).freqs = s.freqs := rfl
@[simp] theorem State.setTurns_clkValid (s : State) (x : List Turn) : (s.setTurns x).clkValid = s.clkValid := rfl
@[simp] theorem State.setTurns_img (s : State) (x : List Turn) : (s.setTurns x).img = s.img := rfl
@[simp] theorem State.setTurns_st (s : State) (x : List Turn) : (s.setTurns x).st = s.st := rfl
@[simp] theorem State.setTurns_tick (s : State) (x : List Turn) : (s.setTurns x).tick = s.tick := rfl
@[simp] theorem State.setTurns_tim (s : State) (x : List Turn) : (s.setTurns x).tim = s.tim := rfl
@[simp] theorem State.setTurns_pwm (s : State) (x : List Turn) : (s.setTurns x).pwm = s.pwm := rfl
@[simp] theorem State.setTurns_nvicEn (s : State) (x : List Turn) : (s.setTurns x).nvicEn = s.nvicEn := rfl
@[simp] theorem State.setTurns_inputs (s : State) (x : List Turn) : (s.setTurns x).inputs = s.inputs := rfl
@[simp] theorem State.setTurns_host (s : State) (x : List Turn) : (s.setTurns x).host = s.host := rfl
@[simp] theorem State.setTurns_turns (s : State) (x : List Turn) : (s.setTurns x).turns = x := rfl
@[simp] theorem State.setTurns_cb (s : State) (x : List Turn) : (s.setTurns x).cb = s.cb := rfl
@[simp] theorem State.setTurns_setTurns (s : State) (x y : List Turn) : (s.setTurns x).setTurns y = s.setTurns y := rfl
@[simp] theorem State.setTurns_self (s : State) : s.setTurns s.turns = s := rfl

@[simp] theorem State.setCb_cfg (s : State) (x : CallbackOut) : (s.setCb x).cfg = s.cfg := rfl
@[simp] theorem State.setCb_ops (s : State) (x : CallbackOut) : (s.setCb x).ops = s.ops := rfl
@[simp] theorem State.setCb_res (s : State) (x : CallbackOut) : (s.setCb x).res = s.res := rfl
@[simp] theorem State.setCb_seq (s : State) (x : CallbackOut) : (s.setCb x).seq = s.seq := rfl
@[simp] theorem State.setCb_err (s : State) (x : CallbackOut) : (s.setCb x).err = s.err := rfl
@[simp] theorem State.setCb_clamp (s : State) (x : CallbackOut) : (s.setCb x).clamp = s.clamp := rfl
@[simp] theorem State.setCb_clkreq (s : State) (x : CallbackOut) : (s.setCb x).clkreq = s.clkreq := rfl
@[simp] theorem State.setCb_flreq (s : State) (x : CallbackOut) : (s.setCb x).flreq = s.flreq := rfl
@[simp] theorem State.setCb_ckflags (s : State) (x : CallbackOut) : (s.setCb x).ckflags = s.ckflags := rfl
@[simp] theorem State.setCb_freqs (s : State) (x : CallbackOut) : (s.setCb x).freqs = s.freqs := rfl
@[simp] theorem State.setCb_clkValid (s : State) (x : CallbackOut) : (s.setCb x).clkValid = s.clkValid := rfl
@[simp] theorem State.setCb_img (s : State) (x : CallbackOut) : (s.setCb x).img = s.img := rfl
@[simp] theorem State.setCb_st (s : State) (x : CallbackOut) : (s.setCb x).st = s.st := rfl
@[simp] theorem State.setCb_tick (s : State) (x : CallbackOut) : (s.setCb x).tick = s.tick := rfl
@[simp] theorem State.setCb_tim (s : State) (x : CallbackOut) : (s.setCb x).tim = s.tim := rfl
@[simp] theorem State.setCb_pwm (s : State) (x : CallbackOut) : (s.setCb x).pwm = s.pwm := rfl
@[simp] theorem State.setCb_nvicEn (s : State) (x : CallbackOut) : (s.setCb x).nvicEn = s.nvicEn := rfl
@[simp] theorem State.setCb_inputs (s : State) (x : CallbackOut) : (s.setCb x).inputs = s.inputs := rfl
@[simp] theorem State.setCb_host (s : State) (x : CallbackOut) : (s.setCb x).host = s.host := rfl
@[simp] theorem State.setCb_turns (s : State) (x : CallbackOut) : (s.setCb x).turns = s.turns := rfl
@[simp] theorem State.setCb_cb (s : State) (x : CallbackOut) : (s.setCb x).cb = x := rfl
@[simp] theorem State.setCb_setCb (s : State) (x y : CallbackOut) : (s.setCb x).setCb y = s.setCb y := rfl
@[simp] theorem State.setCb_self (s : State) : s.setCb s.cb = s := rfl

end Machine

end Sys2Proof
end

