-- ==== Sys2Proof/Laws/Ops.lean ====
section
/-!
SUPPORT. For each shared operation one lemma that says all it can do, to be cited in place of unfolding it: the refusal, the
selections of bank and channels, the writes of a bank, of channels, of TICK, the events, a sequencer turn, a host access, a
step, a run. (What a command can do stands in Laws/Exec.lean.)
-/

namespace Sys2Proof.Machine

/-! ### Refusal, bank and channel selection -/

theorem refuse_next {e : ErrCode} {s t : State} (h : refuse e s = .next t) : t = s.setErr e := by
  cases h
  rfl

theorem withBank_some {tid : BitVec 2} {b : TimId} {s : State} (h : timOf s.cfg tid = some b)
    (k : TimId → Host.Outcome State Fault Refusal) : withBank tid s k = k b := by
  simp [withBank, h]

theorem withBank_none {tid : BitVec 2} {s : State} (h : timOf s.cfg tid = none)
    (k : TimId → Host.Outcome State Fault Refusal) : withBank tid s k = .next (s.setErr .timId) := by
  simp [withBank, h, refuse]

theorem withBank_next {tid : BitVec 2} {s t : State} {k : TimId → Host.Outcome State Fault Refusal}
    (h : withBank tid s k = .next t) :
    (timOf s.cfg tid = none ∧ t = s.setErr .timId) ∨ ∃ b, timOf s.cfg tid = some b ∧ k b = .next t := by
  cases hb : timOf s.cfg tid with
  | none => rw [withBank_none hb] at h; exact .inl ⟨rfl, by cases h; rfl⟩
  | some b => rw [withBank_some hb] at h; exact .inr ⟨b, rfl, h⟩

theorem withChannels_some {sel : BitVec 8} {m : BitVec 4} {s : State} (h : chmask s.cfg sel = some m)
    (k : BitVec 4 → Host.Outcome State Fault Refusal) : withChannels sel s k = k m := by
  simp [withChannels, h]

theorem withChannels_none {sel : BitVec 8} {s : State} (h : chmask s.cfg sel = none)
    (k : BitVec 4 → Host.Outcome State Fault Refusal) : withChannels sel s k = .next (s.setErr .chSel) := by
  simp [withChannels, h, refuse]

theorem withChannels_next {sel : BitVec 8} {s t : State} {k : BitVec 4 → Host.Outcome State Fault Refusal}
    (h : withChannels sel s k = .next t) :
    (chmask s.cfg sel = none ∧ t = s.setErr .chSel) ∨ ∃ m, chmask s.cfg sel = some m ∧ k m = .next t := by
  cases hm : chmask s.cfg sel with
  | none => rw [withChannels_none hm] at h; exact .inl ⟨rfl, by cases h; rfl⟩
  | some m => rw [withChannels_some hm] at h; exact .inr ⟨m, rfl, h⟩

theorem dirOf_none_iff (d : BitVec 2) : dirOf d = none ↔ d = 3#2 := by
  revert d
  decide

/-! ### Writes of results, banks, channels and TICK -/

theorem setR0_eq (v : Word) (s : State) : setR0 v s = s.setRes ⟨v, s.res.r1, s.res.r2, s.res.r3⟩ := rfl

theorem setR01_eq (v w : Word) (s : State) : setR01 v w s = s.setRes ⟨v, w, s.res.r2, s.res.r3⟩ := rfl

theorem updTim_eq (t : TimId) (f : Timer → Timer) (s : State) :
    updTim t f s = s.setTim (s.tim.set t (f (s.tim.get t))) := rfl

theorem updTim_get (t u : TimId) (f : Timer → Timer) (s : State) :
    (updTim t f s).tim.get u = if u = t then f (s.tim.get t) else s.tim.get u := by
  simp [updTim, PerTimer.get_set]

/-- Everything `updChannels` does: the selected channels of bank `t` are rewritten, and PWM is all it writes. -/
theorem updChannels_spec (t : TimId) (m : BitVec 4) (f : Channel → Channel) (s : State) :
    updChannels t m f s = s.setPwm (updChannels t m f s).pwm ∧
    (∀ c, ((updChannels t m f s).pwm.get t).get c =
      if selects m c then f ((s.pwm.get t).get c) else (s.pwm.get t).get c) ∧
    ∀ u, u ≠ t → (updChannels t m f s).pwm.get u = s.pwm.get u := by
  refine ⟨rfl, fun c => ?_, fun u hu => ?_⟩
  · simp [updChannels]
  · simp [updChannels, PerTimer.get_set_other _ _ hu]

theorem selectedConfigured_iff (s : State) (t : TimId) (m : BitVec 4) :
    selectedConfigured s t m = true ↔ ∀ c, selects m c = true → ((s.pwm.get t).get c).cfgd = true := by
  constructor
  · intro h c hc
    cases c <;> simp_all [selectedConfigured]
  · intro h
    have h1 := h .c1
    have h2 := h .c2
    have h3 := h .c3
    have h4 := h .c4
    cases e1 : selects m .c1 <;> cases e2 : selects m .c2 <;> cases e3 : selects m .c3 <;>
      cases e4 : selects m .c4 <;> simp_all [selectedConfigured]

@[simp] theorem writeCompare_ccrPre (v : Half) (e : Bool) (ch : Channel) : (writeCompare v e ch).ccrPre = v := rfl
@[simp] theorem writeCompare_ccrAct (v : Half) (e : Bool) (ch : Channel) :
    (writeCompare v e ch).ccrAct = if e then ch.ccrAct else v := rfl
@[simp] theorem writeCompare_cfgd (v : Half) (e : Bool) (ch : Channel) : (writeCompare v e ch).cfgd = ch.cfgd := rfl
@[simp] theorem writeCompare_inv (v : Half) (e : Bool) (ch : Channel) : (writeCompare v e ch).inv = ch.inv := rfl
@[simp] theorem writeCompare_pol (v : Half) (e : Bool) (ch : Channel) : (writeCompare v e ch).pol = ch.pol := rfl
@[simp] theorem writeCompare_pe (v : Half) (e : Bool) (ch : Channel) : (writeCompare v e ch).pe = ch.pe := rfl
@[simp] theorem writeCompare_duty (v : Half) (e : Bool) (ch : Channel) : (writeCompare v e ch).duty = ch.duty := rfl

theorem addClamp_eq (bits : BitVec 6) (s : State) : addClamp bits s = s.setClamp (s.clamp ||| bits) := rfl

theorem writeTick_eq (v : BitVec 64) (s : State) : writeTick v s = s.setTick (tickWrap s.cfg v) := rfl

theorem tickWrap_w64 {cfg : Config} (h : cfg.tickW = .w64) (v : BitVec 64) : tickWrap cfg v = v := by
  simp [tickWrap, h]

theorem tickWrap_w32 {cfg : Config} (h : cfg.tickW = .w32) (v : BitVec 64) :
    (tickWrap cfg v).toNat = v.toNat % 2 ^ 32 := by
  have e : (0x00000000FFFFFFFF#64).toNat = 2 ^ 32 - 1 := rfl
  simp only [tickWrap, h, BitVec.toNat_and, e, Nat.and_two_pow_sub_one_eq_mod]

/-! ### Events and the sequencer -/

/-- Everything the tick event does. -/
theorem tickEvent_spec (s : State) :
    (s.st.state ≠ .running → tickEvent s = s) ∧
    (s.st.state = .running → s.st.cbEn = false → tickEvent s = s.setTick (tickWrap s.cfg (s.tick + 1#64))) ∧
    (s.st.state = .running → s.st.cbEn = true →
      tickEvent s = (s.setTick (tickWrap s.cfg (s.tick + 1#64))).setCb ⟨true, s.cb.count + 1⟩) := by
  refine ⟨fun h => ?_, fun h hc => ?_, fun h hc => ?_⟩
  · simp [tickEvent, h]
  · simp [tickEvent, h, hc, writeTick]
  · simp [tickEvent, h, hc, writeTick, strobe]

/-- Everything the update event does: it writes TIM and PWM only, and of them bank `t` only. -/
theorem updateEvent_spec (t : TimId) (s : State) :
    updateEvent t s = (s.setTim (s.tim.set t (timerUpdate (s.tim.get t)))).setPwm (updateEvent t s).pwm ∧
    (∀ c, ((updateEvent t s).pwm.get t).get c = channelUpdate ((s.pwm.get t).get c)) ∧
    ∀ u, u ≠ t → (updateEvent t s).pwm.get u = s.pwm.get u := by
  obtain ⟨h1, h2, h3⟩ := updChannels_spec t 0xF#4 channelUpdate (updTim t timerUpdate s)
  refine ⟨h1, fun c => ?_, fun u hu => h3 u hu⟩
  have hc : selects 0xF#4 c = true := by cases c <;> rfl
  exact (h2 c).trans (if_pos hc)

/-- A turn of the sequencer: its phase, or nothing. -/
theorem seqStep_cases (s : State) :
    (seqEnabled s = true ∧ seqStep s = seqPhase s) ∨ (seqEnabled s = false ∧ seqStep s = s) := by
  cases h : seqEnabled s <;> simp [seqStep, h]

/-- What the tick event leaves alone: all but TICK and the callback output. -/
theorem tickEvent_same (s : State) :
    (tickEvent s).cfg = s.cfg ∧ (tickEvent s).ops = s.ops ∧ (tickEvent s).res = s.res ∧ (tickEvent s).seq = s.seq ∧
    (tickEvent s).err = s.err ∧ (tickEvent s).clamp = s.clamp ∧ (tickEvent s).clkreq = s.clkreq ∧
    (tickEvent s).flreq = s.flreq ∧ (tickEvent s).ckflags = s.ckflags ∧ (tickEvent s).freqs = s.freqs ∧
    (tickEvent s).clkValid = s.clkValid ∧ (tickEvent s).img = s.img ∧ (tickEvent s).st = s.st ∧
    (tickEvent s).tim = s.tim ∧ (tickEvent s).pwm = s.pwm ∧ (tickEvent s).nvicEn = s.nvicEn ∧
    (tickEvent s).inputs = s.inputs ∧ (tickEvent s).host = s.host ∧ (tickEvent s).turns = s.turns := by
  unfold tickEvent
  split <;> (try split) <;> simp [writeTick, strobe]

/-- What the update event leaves alone: all but TIM and PWM. -/
theorem updateEvent_same (t : TimId) (s : State) :
    (updateEvent t s).cfg = s.cfg ∧ (updateEvent t s).ops = s.ops ∧ (updateEvent t s).res = s.res ∧
    (updateEvent t s).seq = s.seq ∧ (updateEvent t s).err = s.err ∧ (updateEvent t s).clamp = s.clamp ∧
    (updateEvent t s).clkreq = s.clkreq ∧ (updateEvent t s).flreq = s.flreq ∧
    (updateEvent t s).ckflags = s.ckflags ∧ (updateEvent t s).freqs = s.freqs ∧
    (updateEvent t s).clkValid = s.clkValid ∧ (updateEvent t s).img = s.img ∧ (updateEvent t s).st = s.st ∧
    (updateEvent t s).tick = s.tick ∧ (updateEvent t s).nvicEn = s.nvicEn ∧ (updateEvent t s).inputs = s.inputs ∧
    (updateEvent t s).host = s.host ∧ (updateEvent t s).turns = s.turns ∧ (updateEvent t s).cb = s.cb := by
  simp [updateEvent, updChannels, updTim]

/-- What a turn of the sequencer leaves alone: all but SEQ, the images, the cached frequencies and CLK_VALID. -/
theorem seqStep_same (s : State) :
    (seqStep s).cfg = s.cfg ∧ (seqStep s).ops = s.ops ∧ (seqStep s).res = s.res ∧ (seqStep s).err = s.err ∧
    (seqStep s).clamp = s.clamp ∧ (seqStep s).clkreq = s.clkreq ∧ (seqStep s).flreq = s.flreq ∧
    (seqStep s).ckflags = s.ckflags ∧ (seqStep s).st = s.st ∧ (seqStep s).tick = s.tick ∧ (seqStep s).tim = s.tim ∧
    (seqStep s).pwm = s.pwm ∧ (seqStep s).nvicEn = s.nvicEn ∧ (seqStep s).inputs = s.inputs ∧
    (seqStep s).host = s.host ∧ (seqStep s).turns = s.turns ∧ (seqStep s).cb = s.cb := by
  unfold seqStep seqPhase
  split <;> (try split) <;> simp

/-! ### The window, the port and the step -/

/-- Every register has an aligned offset of its own (Table R53). -/
theorem regAt_regOffset (r : Reg) : regAt (regOffset r) = some r ∧ (regOffset r).extractLsb' 0 2 = 0#2 := by
  cases r
  case bank t r =>
    cases t <;> cases r <;> try decide
    all_goals
      rename_i c
      cases c <;> decide
  all_goals decide

/-- What a write to a register other than CMD leaves alone; CLKREQ and FLREQ too, where the write is of a class that does
not stall. -/
theorem writeReg_same (r : Reg) (v : Word) (s : State) :
    (writeReg r v s).cfg = s.cfg ∧ (writeReg r v s).res = s.res ∧ (writeReg r v s).seq = s.seq ∧
    (writeReg r v s).ckflags = s.ckflags ∧ (writeReg r v s).freqs = s.freqs ∧
    (writeReg r v s).clkValid = s.clkValid ∧ (writeReg r v s).img = s.img ∧ (writeReg r v s).st = s.st ∧
    (writeReg r v s).tick = s.tick ∧ (writeReg r v s).tim = s.tim ∧ (writeReg r v s).pwm = s.pwm ∧
    (writeReg r v s).nvicEn = s.nvicEn ∧ (writeReg r v s).inputs = s.inputs ∧ (writeReg r v s).host = s.host ∧
    (writeReg r v s).turns = s.turns ∧ (writeReg r v s).cb = s.cb ∧
    (stallable (accessClass r) = false → (writeReg r v s).clkreq = s.clkreq ∧ (writeReg r v s).flreq = s.flreq) := by
  cases r <;> simp [writeReg, accessClass, stallable]

/-- Everything an access of the host can do, if it answers a next state. -/
theorem portAccess_next {a : HostAccess} {s t : State} (h : portAccess a s = .next t) :
    ∃ off, windowOffset s.cfg a.addr = some off ∧
      ((alignedWord a off = false ∧ t = respond .busError s) ∨
       (alignedWord a off = true ∧ a.kind = .read ∧ t = respond (.data (regRead s off)) s) ∨
       (∃ v, alignedWord a off = true ∧ a.kind = .write v ∧ portWrite a off v s = .next t)) := by
  unfold portAccess at h
  split at h
  · cases h
  · rename_i off hoff
    refine ⟨off, hoff, ?_⟩
    split at h
    · rename_i hal
      split at h
      · rename_i hk
        cases h
        exact .inr (.inl ⟨hal, hk, rfl⟩)
      · rename_i v hk
        exact .inr (.inr ⟨v, hal, hk, h⟩)
    · rename_i hal
      cases h
      exact .inl ⟨by simpa using hal, rfl⟩

/-- Everything a write does, if it answers a next state: it is held, ignored, executed or stored. -/
theorem portWrite_next {a : HostAccess} {off : BitVec 10} {v : Word} {s t : State} (h : portWrite a off v s = .next t) :
    (busy s = true ∧ stallable (writeClass off) = true ∧
      t = s.setHost { s.host with port := some a, resp := .stalled }) ∨
    (regAt off = none ∧ t = respond .done s) ∨
    (busy s = false ∧ regAt off = some .cmd ∧ execWord v (respond .done s) = .next t) ∨
    (∃ r, r ≠ .cmd ∧ regAt off = some r ∧ (busy s = true → stallable (accessClass r) = false) ∧
      t = writeReg r v (respond .done s)) := by
  unfold portWrite at h
  split at h
  · rename_i hb
    cases h
    simp only [Bool.and_eq_true] at hb
    exact .inl ⟨hb.1, hb.2, rfl⟩
  · rename_i hb
    unfold regWrite at h
    split at h
    · rename_i hr
      cases h
      exact .inr (.inl ⟨hr, rfl⟩)
    · rename_i hr
      refine .inr (.inr (.inl ⟨?_, hr, h⟩))
      cases e : busy s
      · rfl
      · simp [writeClass, hr, accessClass, stallable, e] at hb
    · rename_i r hne hr
      cases h
      refine .inr (.inr (.inr ⟨r, hne, hr, fun hbusy => ?_, rfl⟩))
      simpa [writeClass, hr, hbusy] using hb

/-- Everything a turn of the host can do, if it answers a next state. -/
theorem hostTurn_next {s t : State} (h : hostTurn s = .next t) :
    (∃ a, s.host.port = some a ∧ portAccess a (s.setHost { s.host with port := none }) = .next t) ∨
    (s.host.port = none ∧ s.host.queue = [] ∧ t = s) ∨
    (∃ a rest, s.host.port = none ∧ s.host.queue = a :: rest ∧
      portAccess a (s.setHost { s.host with queue := rest }) = .next t) := by
  unfold hostTurn at h
  split at h
  · rename_i a ha
    exact .inl ⟨a, ha, h⟩
  · rename_i hp
    split at h
    · rename_i hq
      cases h
      exact .inr (.inl ⟨hp, hq, rfl⟩)
    · rename_i a rest hq
      exact .inr (.inr ⟨a, rest, hp, hq, h⟩)

/-- Everything the entry of a handler does: the host's accesses, and nothing of the engine. -/
theorem enterHandler_eq (l : List HostAccess) (s : State) :
    enterHandler l s = s.setHost ⟨l ++ s.host.queue, s.host.port, s.host.resp⟩ := rfl

/-- Everything a step can do, if it answers a next state. -/
theorem step_next {s t : State} (h : step s = .next t) :
    (nextTurn s = .host ∧ hostTurn (beginStep s) = .next t) ∨
    (∃ l, nextTurn s = .handler l ∧ t = enterHandler l (beginStep s)) ∨
    (nextTurn s = .sequencer ∧ t = seqStep (beginStep s)) ∨
    (nextTurn s = .tick ∧ t = tickEvent (beginStep s)) ∨
    (∃ b, nextTurn s = .uev b ∧ t = updateEvent b (beginStep s)) ∨
    (∃ i, nextTurn s = .inputs i ∧ t = (beginStep s).setInputs i) ∨
    (nextTurn s = .rst ∧ t = resetEvent (beginStep s)) := by
  unfold step takeTurn at h
  split at h
  · rename_i e
    exact .inl ⟨e, h⟩
  · rename_i l e
    cases h
    exact .inr (.inl ⟨l, e, rfl⟩)
  · rename_i e
    cases h
    exact .inr (.inr (.inl ⟨e, rfl⟩))
  · rename_i e
    cases h
    exact .inr (.inr (.inr (.inl ⟨e, rfl⟩)))
  · rename_i b e
    cases h
    exact .inr (.inr (.inr (.inr (.inl ⟨b, e, rfl⟩))))
  · rename_i i e
    cases h
    exact .inr (.inr (.inr (.inr (.inr (.inl ⟨i, e, rfl⟩)))))
  · rename_i e
    cases h
    exact .inr (.inr (.inr (.inr (.inr (.inr ⟨e, rfl⟩)))))

/-- What an agent finds at its turn. -/
theorem beginStep_eq (s : State) :
    beginStep s = ((s.setTurns s.turns.tail).setHost { s.host with resp := .none }).setCb { s.cb with strobe := false } :=
  rfl

/-- The address of a register lies in the window at its offset. -/
theorem windowOffset_append (cfg : Config) (off : BitVec 10) : windowOffset cfg (cfg.baseHi ++ off) = some off := by
  have h1 : (cfg.baseHi ++ off : BitVec 32).extractLsb' 10 22 = cfg.baseHi := BitVec.extractLsb'_append_eq_left
  have h2 : (cfg.baseHi ++ off : BitVec 32).extractLsb' 0 10 = off := BitVec.extractLsb'_append_eq_right
  unfold windowOffset
  rw [if_pos h1, h2]

/-- Everything `WR r, v` does: it stalls, executes a command, or writes the register (R52, R113). -/
theorem portAccess_writeAccess (r : Reg) (v : Word) (s : State) :
    portAccess (writeAccess s.cfg r v) s =
      if busy s && stallable (accessClass r) then
        .next (s.setHost { s.host with port := some (writeAccess s.cfg r v), resp := .stalled })
      else if r = .cmd then execWord v (respond .done s)
      else .next (writeReg r v (respond .done s)) := by
  have hw : windowOffset s.cfg (writeAccess s.cfg r v).addr = some (regOffset r) := windowOffset_append _ _
  obtain ⟨hr, ha⟩ := regAt_regOffset r
  unfold portAccess
  rw [hw]
  simp only [alignedWord, writeAccess, ha, portWrite, regWrite, hr, writeClass]
  by_cases hc : r = .cmd
  · subst hc
    simp [accessClass, stallable]
  · simp [hc]

/-- One step of a run (R13). -/
theorem run_succ (M : Host.Core) {s u : M.State} {k : Nat} (h : M.step s = .next u) : M.run (k + 1) s = M.run k u := by
  simp only [Host.Core.run, h]

/-- One step of a run of this machine. -/
theorem core_run_succ {s u : State} {k : Nat} (h : step s = .next u) :
    Sys2Proof.core.run (k + 1) s = Sys2Proof.core.run k u :=
  run_succ Sys2Proof.core h

end Sys2Proof.Machine
end

