-- ==== Sys2Proof/Laws/Exec.lean ====
section
/-!
SUPPORT. What executing a command can do, said once: it is refused, with ERR alone written, or it makes the writes of its
accepted form (`AcceptedWrites`). To be cited in place of unfolding the meanings.
-/

namespace Sys2Proof.Machine

/-- What command `i`, accepted in `s`, leaves as `t`; values are named only where a footprint needs them. -/
def AcceptedWrites (i : Instr) (s t : State) : Prop :=
  match i with
  | .ckdrv => ∃ r k, t = (s.setRes r).setCkflags k
  | .ckws => ∃ v, t = setR0 v s
  | .ckaux => ∃ v w, t = setR01 v w s
  | .ckcfg => s.clkValid = false ∧ ckflagsOf s.cfg s.clkreq s.flreq = 0#6 ∧ t = s.setSeq .flash
  | .stcalc => s.clkValid = true ∧ ∃ a b c, t = s.setRes ⟨a, b, c, s.res.r3⟩
  | .stcfg =>
    periodFits s.cfg s.ops.a0.toNat = true ∧
    t = (s.setSt { s.st with
      state := .running
      reload := BitVec.ofNat 24 s.ops.a0.toNat
      load := BitVec.ofNat 24 (s.ops.a0.toNat - s.cfg.stLoadBias)
      enable := true
      tickint := true
      clksrc := true }).setTick 0#64
  | .stget => t = setR01 (tickLo s) (tickHi s) s
  | .stset => t = writeTick (s.ops.a1 ++ s.ops.a0) s
  | .sten => s.st.state ≠ .unconfigured ∧ t = setRunState .running true s
  | .stdis => (s.st.state ≠ .running ∧ t = s) ∨ (s.st.state = .running ∧ t = setRunState .stopped false s)
  | .stcb en => t = s.setSt { s.st with cbEn := en }
  | .std2t _ => s.clkValid = true ∧ s.st.state ≠ .unconfigured ∧ ∃ v w, t = setR01 v w s
  | .tmpsc => s.ops.a1 ≠ 0#32 ∧ ∃ v w, t = setR01 v w s
  | .tmcfg sel ie opm arpe dir tid =>
    ∃ b m d, timOf s.cfg tid = some b ∧ chmask s.cfg sel = some m ∧ dirOf dir = some d ∧ s.clkValid = true ∧ s.ops.a0 ≠ 0#32 ∧
      t = tmcfgAccept b m ie opm arpe d s
  | .tmen tid => ∃ b, timOf s.cfg tid = some b ∧ (s.tim.get b).cfgd = true ∧ t = updTim b (fun x => { x with en := true }) s
  | .tmdis tid => ∃ b, timOf s.cfg tid = some b ∧ t = updTim b (fun x => { x with en := false, cntInit := 0#16 }) s
  | .tmrst tid =>
    ∃ b, timOf s.cfg tid = some b ∧
      t = ((updTim b (fun _ => Timer.reset) s).setPwm
        (s.pwm.set b (PerChan.tabulate fun _ => Channel.reset))).setNvicEn (s.nvicEn.set b false)
  | .tmirq tid => ∃ b, timOf s.cfg tid = some b ∧ t = setR0 (lowWord (bit (s.tim.get b).uif)) s
  | .tmclr tid => ∃ b, timOf s.cfg tid = some b ∧ t = clearUif b s
  | .tmack tid => ∃ b, timOf s.cfg tid = some b ∧ t = clearUif b s
  | .pwccr => ∃ v w, t = setR01 v w s
  | .pwcfg sel pe pol inv tid =>
    ∃ b m, timOf s.cfg tid = some b ∧ chmask s.cfg sel = some m ∧ (s.tim.get b).cfgd = true ∧
      t = addClamp (dutyCommitClamp s b) (updChannels b m
        (fun ch => writeCompare (compareOf s b) pe
          { ch with inv := inv, pol := pol, pe := pe, duty := BitVec.ofNat 7 (dutyOf s), cfgd := true }) s)
  | .pwduty sel tid =>
    ∃ b m, timOf s.cfg tid = some b ∧ chmask s.cfg sel = some m ∧ (s.tim.get b).cfgd = true ∧ selectedConfigured s b m = true ∧
      t = addClamp (dutyCommitClamp s b) (updChannels b m
        (fun ch => writeCompare (compareOf s b) ch.pe { ch with duty := BitVec.ofNat 7 (dutyOf s) }) s)

theorem execSysTick_next {i : Instr} {s t : State} (h : exec i s = .next t)
    (hi : i = .stcalc ∨ i = .stcfg ∨ i = .sten ∨ i = .stdis ∨ ∃ ms, i = .std2t ms) :
    (∃ e, t = s.setErr e) ∨ AcceptedWrites i s t := by
  rcases hi with rfl | rfl | rfl | rfl | ⟨ms, rfl⟩ <;> simp only [exec] at h <;> simp only [AcceptedWrites]
  · unfold execStcalc at h
    split at h
    · exact .inl ⟨_, refuse_next h⟩
    · rename_i hv
      extract_lets r at h
      injection h with h
      exact .inr ⟨by simpa using hv, _, _, _, h.symm⟩
  · unfold execStcfg at h
    extract_lets p at h
    split at h
    · exact .inl ⟨_, refuse_next h⟩
    · rename_i hp
      injection h with h
      exact .inr ⟨by simpa using hp, h.symm⟩
  · unfold execSten at h
    split at h
    · exact .inl ⟨_, refuse_next h⟩
    · rename_i e
      cases h
      exact .inr ⟨by simp [e], rfl⟩
    · rename_i e
      cases h
      exact .inr ⟨by simp [e], rfl⟩
  · unfold execStdis at h
    split at h
    · rename_i e
      cases h
      exact .inr (.inl ⟨by simp [e], rfl⟩)
    · rename_i e
      cases h
      exact .inr (.inr ⟨e, rfl⟩)
    · rename_i e
      cases h
      exact .inr (.inl ⟨by simp [e], rfl⟩)
  · unfold execStd2t at h
    split at h
    · exact .inl ⟨_, refuse_next h⟩
    · rename_i hv
      split at h
      · exact .inl ⟨_, refuse_next h⟩
      · rename_i hs
        injection h with h
        exact .inr ⟨by simpa using hv, hs, _, _, h.symm⟩

theorem execTmcfg_next {sel : BitVec 8} {ie opm arpe : Bool} {dir tid : BitVec 2} {s t : State}
    (h : execTmcfg sel ie opm arpe dir tid s = .next t) :
    (∃ e, t = s.setErr e) ∨ AcceptedWrites (.tmcfg sel ie opm arpe dir tid) s t := by
  unfold execTmcfg at h
  split at h
  · exact .inl ⟨_, refuse_next h⟩
  · rename_i d hd
    rcases withBank_next h with ⟨_, rfl⟩ | ⟨b, hb, h⟩
    · exact .inl ⟨_, rfl⟩
    rcases withChannels_next h with ⟨_, rfl⟩ | ⟨m, hm, h⟩
    · exact .inl ⟨_, rfl⟩
    split at h
    · exact .inl ⟨_, refuse_next h⟩
    rename_i hv
    split at h
    · exact .inl ⟨_, refuse_next h⟩
    rename_i h0
    injection h with h
    exact .inr ⟨b, m, d, hb, hm, hd, by simpa using hv, h0, h.symm⟩

theorem execPwm_next {i : Instr} {s t : State} (h : exec i s = .next t)
    (hi : (∃ sel pe pol inv tid, i = .pwcfg sel pe pol inv tid) ∨ ∃ sel tid, i = .pwduty sel tid) :
    (∃ e, t = s.setErr e) ∨ AcceptedWrites i s t := by
  rcases hi with ⟨sel, pe, pol, inv, tid, rfl⟩ | ⟨sel, tid, rfl⟩ <;>
    rcases withBank_next h with ⟨_, rfl⟩ | ⟨b, hb, h⟩
  · exact .inl ⟨_, rfl⟩
  · rcases withChannels_next h with ⟨_, rfl⟩ | ⟨m, hm, h⟩
    · exact .inl ⟨_, rfl⟩
    split at h
    · exact .inl ⟨_, refuse_next h⟩
    rename_i hc
    injection h with h
    exact .inr ⟨b, m, hb, hm, by simpa using hc, h.symm⟩
  · exact .inl ⟨_, rfl⟩
  · rcases withChannels_next h with ⟨_, rfl⟩ | ⟨m, hm, h⟩
    · exact .inl ⟨_, rfl⟩
    split at h
    · exact .inl ⟨_, refuse_next h⟩
    rename_i hc
    split at h
    · exact .inl ⟨_, refuse_next h⟩
    rename_i hs
    injection h with h
    exact .inr ⟨b, m, hb, hm, by simpa using hc, by simpa using hs, h.symm⟩

/-- Everything a command can do, if it answers a next state (it always does): refused, or its accepted writes. -/
theorem exec_next {i : Instr} {s t : State} (h : exec i s = .next t) :
    (∃ e, t = s.setErr e) ∨ AcceptedWrites i s t := by
  cases i
  case ckdrv => cases h; exact .inr ⟨_, _, rfl⟩
  case ckws => cases h; exact .inr ⟨_, rfl⟩
  case ckaux =>
    simp only [exec, execCkaux] at h
    split at h <;> cases h <;> exact .inr ⟨_, _, rfl⟩
  case ckcfg =>
    simp only [exec, execCkcfg] at h
    split at h
    · exact .inl ⟨_, refuse_next h⟩
    rename_i hv
    split at h
    · exact .inl ⟨_, refuse_next h⟩
    rename_i hk
    cases h
    exact .inr ⟨by simpa using hv, not_not.mp hk, rfl⟩
  case stcalc => exact execSysTick_next h (by simp)
  case stcfg => exact execSysTick_next h (by simp)
  case stget => cases h; exact .inr rfl
  case stset => cases h; exact .inr rfl
  case sten => exact execSysTick_next h (by simp)
  case stdis => exact execSysTick_next h (by simp)
  case stcb => cases h; exact .inr rfl
  case std2t => exact execSysTick_next h (by simp)
  case tmpsc =>
    simp only [exec, execTmpsc] at h
    split at h
    · exact .inl ⟨_, refuse_next h⟩
    rename_i h1
    injection h with h
    exact .inr ⟨h1, _, _, h.symm⟩
  case tmcfg => exact execTmcfg_next h
  case tmen =>
    rcases withBank_next h with ⟨_, rfl⟩ | ⟨b, hb, h⟩
    · exact .inl ⟨_, rfl⟩
    split at h
    · exact .inl ⟨_, refuse_next h⟩
    rename_i hc
    injection h with h
    exact .inr ⟨b, hb, by simpa using hc, h.symm⟩
  case pwccr =>
    injection h with h
    exact .inr ⟨_, _, h.symm⟩
  case pwcfg => exact execPwm_next h (by simp)
  case pwduty => exact execPwm_next h (by simp)
  all_goals
    rcases withBank_next h with ⟨_, rfl⟩ | ⟨b, hb, h⟩
    · exact .inl ⟨_, rfl⟩
    injection h with h
    exact .inr ⟨b, hb, h.symm⟩

end Sys2Proof.Machine
end

