-- ==== Sys2Proof/Laws/PerInstr.lean ====
section
/-!
SUPPORT. A family of facts about each command as syntax: `EncodesOwnRow`, the word of a command has its own row's OP in bits
31:24 and a 0 in every reserved bit of that row (Table R78).
-/

namespace Sys2Proof.Laws

/-- A row of Table R78: OP and the mask of the reserved bits. -/
structure OpRow where
  op : BitVec 8
  mbz : Word
deriving DecidableEq, Repr

/-- Each command's row of Table R78. -/
def rowOf : Instr → OpRow
  | .ckdrv => ⟨0x01#8, 0x00FFFFFF#32⟩
  | .ckws => ⟨0x02#8, 0x00FFFFFF#32⟩
  | .ckaux => ⟨0x03#8, 0x00FFFFFF#32⟩
  | .ckcfg => ⟨0x04#8, 0x00FFFFFF#32⟩
  | .stcalc => ⟨0x10#8, 0x00FFFFFF#32⟩
  | .stcfg => ⟨0x11#8, 0x00FFFFFF#32⟩
  | .stget => ⟨0x12#8, 0x00FFFFFF#32⟩
  | .stset => ⟨0x13#8, 0x00FFFFFF#32⟩
  | .sten => ⟨0x14#8, 0x00FFFFFF#32⟩
  | .stdis => ⟨0x15#8, 0x00FFFFFF#32⟩
  | .stcb _ => ⟨0x16#8, 0x00FFFFFE#32⟩
  | .std2t _ => ⟨0x17#8, 0x00FFFFFE#32⟩
  | .tmpsc => ⟨0x20#8, 0x00FFFFFF#32⟩
  | .tmcfg _ _ _ _ _ _ => ⟨0x21#8, 0x00FF0080#32⟩
  | .tmen _ => ⟨0x22#8, 0x00FFFFFC#32⟩
  | .tmdis _ => ⟨0x23#8, 0x00FFFFFC#32⟩
  | .tmrst _ => ⟨0x24#8, 0x00FFFFFC#32⟩
  | .tmirq _ => ⟨0x25#8, 0x00FFFFFC#32⟩
  | .tmclr _ => ⟨0x26#8, 0x00FFFFFC#32⟩
  | .tmack _ => ⟨0x27#8, 0x00FFFFFC#32⟩
  | .pwccr => ⟨0x30#8, 0x00FFFFFF#32⟩
  | .pwcfg _ _ _ _ _ => ⟨0x31#8, 0x00FF00E0#32⟩
  | .pwduty _ _ => ⟨0x32#8, 0x00FF00FC#32⟩

/-- The word of a command has its row's OP and no reserved bit. -/
def EncodesOwnRow.Statement (i : Instr) : Prop :=
  opField (encode i) = (rowOf i).op ∧ encode i &&& (rowOf i).mbz = 0#32

theorem fitsRow_b (op : BitVec 8) (b : Bool) :
    opField (encodeB op b) = op ∧ encodeB op b &&& 0x00FFFFFE#32 = 0#32 := by
  constructor <;> apply BitVec.eq_of_getLsbD_eq <;> intro i hi <;>
    simp only [opField, encodeB, BitVec.getLsbD_extractLsb', BitVec.getLsbD_and, BitVec.getLsbD_append] <;>
    interval_cases i <;> simp

theorem fitsRow_t (op : BitVec 8) (tid : BitVec 2) :
    opField (encodeT op tid) = op ∧ encodeT op tid &&& 0x00FFFFFC#32 = 0#32 := by
  constructor <;> apply BitVec.eq_of_getLsbD_eq <;> intro i hi <;>
    simp only [opField, encodeT, BitVec.getLsbD_extractLsb', BitVec.getLsbD_and, BitVec.getLsbD_append] <;>
    interval_cases i <;> simp

theorem fitsRow_tc (op sel : BitVec 8) (ie opm arpe : Bool) (dir tid : BitVec 2) :
    opField (encodeTC op sel ie opm arpe dir tid) = op ∧
    encodeTC op sel ie opm arpe dir tid &&& 0x00FF0080#32 = 0#32 := by
  constructor <;> apply BitVec.eq_of_getLsbD_eq <;> intro i hi <;>
    simp only [opField, encodeTC, BitVec.getLsbD_extractLsb', BitVec.getLsbD_and, BitVec.getLsbD_append] <;>
    interval_cases i <;> simp

theorem fitsRow_p (op sel : BitVec 8) (pe pol inv : Bool) (tid : BitVec 2) :
    opField (encodeP op sel pe pol inv tid) = op ∧
    encodeP op sel pe pol inv tid &&& 0x00FF00E0#32 = 0#32 := by
  constructor <;> apply BitVec.eq_of_getLsbD_eq <;> intro i hi <;>
    simp only [opField, encodeP, BitVec.getLsbD_extractLsb', BitVec.getLsbD_and, BitVec.getLsbD_append] <;>
    interval_cases i <;> simp

theorem fitsRow_d (op sel : BitVec 8) (tid : BitVec 2) :
    opField (encodeD op sel tid) = op ∧ encodeD op sel tid &&& 0x00FF00FC#32 = 0#32 := by
  constructor <;> apply BitVec.eq_of_getLsbD_eq <;> intro i hi <;>
    simp only [opField, encodeD, BitVec.getLsbD_extractLsb', BitVec.getLsbD_and, BitVec.getLsbD_append] <;>
    interval_cases i <;> simp

namespace EncodesOwnRow

theorem ckdrv : Statement .ckdrv := ⟨by decide, by decide⟩
theorem ckws : Statement .ckws := ⟨by decide, by decide⟩
theorem ckaux : Statement .ckaux := ⟨by decide, by decide⟩
theorem ckcfg : Statement .ckcfg := ⟨by decide, by decide⟩
theorem stcalc : Statement .stcalc := ⟨by decide, by decide⟩
theorem stcfg : Statement .stcfg := ⟨by decide, by decide⟩
theorem stget : Statement .stget := ⟨by decide, by decide⟩
theorem stset : Statement .stset := ⟨by decide, by decide⟩
theorem sten : Statement .sten := ⟨by decide, by decide⟩
theorem stdis : Statement .stdis := ⟨by decide, by decide⟩
theorem stcb (en : Bool) : Statement (.stcb en) := fitsRow_b _ _
theorem std2t (unit : Bool) : Statement (.std2t unit) := fitsRow_b _ _
theorem tmpsc : Statement .tmpsc := ⟨by decide, by decide⟩
theorem tmcfg (chsel : BitVec 8) (ie opm arpe : Bool) (dir tid : BitVec 2) :
    Statement (.tmcfg chsel ie opm arpe dir tid) := fitsRow_tc _ _ _ _ _ _ _
theorem tmen (tid : BitVec 2) : Statement (.tmen tid) := fitsRow_t _ _
theorem tmdis (tid : BitVec 2) : Statement (.tmdis tid) := fitsRow_t _ _
theorem tmrst (tid : BitVec 2) : Statement (.tmrst tid) := fitsRow_t _ _
theorem tmirq (tid : BitVec 2) : Statement (.tmirq tid) := fitsRow_t _ _
theorem tmclr (tid : BitVec 2) : Statement (.tmclr tid) := fitsRow_t _ _
theorem tmack (tid : BitVec 2) : Statement (.tmack tid) := fitsRow_t _ _
theorem pwccr : Statement .pwccr := ⟨by decide, by decide⟩
theorem pwcfg (chsel : BitVec 8) (pe pol inv : Bool) (tid : BitVec 2) :
    Statement (.pwcfg chsel pe pol inv tid) := fitsRow_p _ _ _ _ _ _
theorem pwduty (chsel : BitVec 8) (tid : BitVec 2) : Statement (.pwduty chsel tid) := fitsRow_d _ _ _

end EncodesOwnRow

end Sys2Proof.Laws
end

