-- ==== Sys2Proof/Laws/Run.lean ====
section
/-!
SUPPORT. The end of a run: it is one state, whatever the fuel; it is over there, was not before, and what is listed after that
point plays no part.
-/

namespace Sys2Proof.Machine

/-- The host has nothing left exactly if its port, its list and the handlers still listed have nothing. -/
theorem accessesLeft_eq_nil_iff (s : State) :
    accessesLeft s = [] ↔ s.host.port = none ∧ s.host.queue = [] ∧ ∀ x ∈ s.turns, turnAccesses x = [] := by
  simp [accessesLeft]

theorem withinRun_of_left {s : State} (h : accessesLeft s ≠ []) : withinRun s = s := if_neg h

theorem withinRun_of_done {s : State} (h : accessesLeft s = []) :
    withinRun s = s.setTurns (s.turns.filter (!isEvent ·)) := if_pos h

/-- With no turn listed nothing is left out. -/
theorem withinRun_of_turns_nil {s : State} (h : s.turns = []) : withinRun s = s := by
  unfold withinRun
  split
  · rw [h, List.filter_nil, ← h]
    rfl
  · rfl

/-- What is no part of the run changes nothing of the state but the turns listed. -/
theorem withinRun_eq (s : State) : ∃ l, (∀ x ∈ l, x ∈ s.turns) ∧ withinRun s = s.setTurns l := by
  unfold withinRun
  split
  · exact ⟨_, fun x hx => (List.mem_filter.mp hx).1, rfl⟩
  · exact ⟨s.turns, fun _ hx => hx, rfl⟩

/-- Where a run is over it ends there: the turns still listed play no part. -/
theorem runEnd_of_over {s : State} (h : runOver s) (n : Nat) : runEnd n s = some s := by
  cases n <;> simp only [runEnd, if_pos h]

/-- Everything a run can do that ends: it is over, or it takes a step of its own, no reset, and ends from there. -/
theorem runEnd_cases {n : Nat} {s u : State} (h : runEnd n s = some u) :
    (runOver s ∧ u = s) ∨
    (¬ runOver s ∧ nextTurn (withinRun s) ≠ .rst ∧
      ∃ k t, n = k + 1 ∧ step (withinRun s) = .next t ∧ runEnd k t = some u) := by
  by_cases ho : runOver s
  · rw [runEnd_of_over ho n] at h
    exact .inl ⟨ho, (Option.some.inj h).symm⟩
  · cases n with
    | zero => simp only [runEnd, if_neg ho, reduceCtorEq] at h
    | succ k =>
      simp only [runEnd, if_neg ho] at h
      split at h
      · cases h
      · rename_i hr
        split at h
        · rename_i t ht
          exact .inr ⟨ho, hr, k, t, rfl, ht, h⟩
        · cases h
        · cases h

/-- One step of a run that is not over. -/
theorem runEnd_succ {n : Nat} {s t : State} (ho : ¬ runOver s) (hr : nextTurn (withinRun s) ≠ .rst)
    (h : step (withinRun s) = .next t) : runEnd (n + 1) s = runEnd n t := by
  simp only [runEnd, if_neg ho, if_neg hr, h]

/-- A run is over where it ends. -/
theorem runEnd_over {n : Nat} {s u : State} (h : runEnd n s = some u) : runOver u := by
  induction n generalizing s with
  | zero =>
    obtain ⟨ho, rfl⟩ | ⟨-, -, k, t, hk, -⟩ := runEnd_cases h
    · exact ho
    · cases hk
  | succ n ih =>
    obtain ⟨ho, rfl⟩ | ⟨-, -, k, t, hk, -, ht⟩ := runEnd_cases h
    · exact ho
    · cases hk
      exact ih ht

/-- More fuel leaves the end where it is. -/
theorem runEnd_mono {n : Nat} {s u : State} (h : runEnd n s = some u) (k : Nat) : runEnd (n + k) s = some u := by
  induction n generalizing s with
  | zero =>
    obtain ⟨ho, rfl⟩ | ⟨-, -, k, t, hk, -⟩ := runEnd_cases h
    · exact runEnd_of_over ho _
    · cases hk
  | succ n ih =>
    obtain ⟨ho, rfl⟩ | ⟨ho, hr, j, t, hj, hs, ht⟩ := runEnd_cases h
    · exact runEnd_of_over ho _
    · cases hj
      rw [Nat.add_right_comm, runEnd_succ ho hr hs]
      exact ih ht

/-- A run has at most one end state (R254). -/
theorem isEndState_unique {s t u : State} (ht : IsEndState s t) (hu : IsEndState s u) : t = u := by
  obtain ⟨n, x, hx, rfl⟩ := ht
  obtain ⟨m, y, hy, rfl⟩ := hu
  have h := runEnd_mono hx m
  rw [Nat.add_comm, runEnd_mono hy n] at h
  cases h
  rfl

end Sys2Proof.Machine
end

