-- ==== Sys2Proof/Tests/Slice0.lean ====
section
/-!
SUPPORT. The model's own tests. Expected values are those of spec/ (the file and the vector are named), never the model's own
answer. Then, for every statement that has hypotheses, a named witness that meets them, clause by clause and at the ends of
the ranges.
-/

namespace Sys2Proof.Tests

open Sys2Proof.Machine Sys2Proof.Claims

/-! ### Helper states -/

/-- The configuration of every state below is legal. -/
theorem legal : Config.standard.wf := by decide

/-- The step that runs the command word `w` in `s` answers a next state of which `p` holds. -/
def ran (w : Nat) (s : State) (p : State → Bool) : Bool :=
  match step (s.withFetchWord 32 w) with
  | .next t => p t
  | .fault _ => false
  | .refused _ => false

/-- The word `w` is refused in `s` with code `e`, and nothing but ERR (and the port's answer) changes (R200). -/
def refusedAs (w : Nat) (s : State) (e : ErrCode) : Bool :=
  ran w s fun t => decide (t = (respond .done s).setErr e)

/-- Operand registers A0, A1, A2. -/
def withOps (a0 a1 a2 : Word) (s : State) : State := s.setOps ⟨a0, a1, a2, 0#32⟩

/-- The clock registers as program P1 leaves them (95_test_vectors.md, P1, end state). -/
def clocked : State :=
  { State.reset with
    clkreq := 0x001D0402
    flreq := 0x12
    freqs := ⟨72000000, 72000000, 36000000, 72000000⟩
    clkValid := true
    img := ⟨0x12, 0x01010000, 0x001D0402⟩
    inputs := ⟨true, true, 2⟩ }

/-- The time base Running with a period of 72,000 cycles and TICK = 41 (P1; 95 2.7). -/
def ticking : State := { clocked with st := ⟨.running, 72000, 72000, true, true, true, true⟩, tick := 41 }

/-- Bank 0 as P2 lines 1 to 4 leave it. -/
def timed : State :=
  { clocked with
    tim := clocked.tim.set .t0
      { Timer.reset with
        cfgd := true, arpe := true, uie := true, chsel := 1, freq := 10000, psc := 6, arrPre := 999 }
    nvicEn := clocked.nvicEn.set .t0 true }

/-- Channel 1 of bank 0 as P2 lines 10 to 11 leave it. -/
def pulsed : State :=
  { timed with
    pwm := timed.pwm.set .t0
      { timed.pwm.t0 with c1 := { Channel.reset with cfgd := true, pe := true, duty := 50, ccrPre := 500 } } }

/-- The host about to make the accesses `q`, with the host as the next agent. -/
def issuing (q : List HostAccess) (s : State) : State := (s.setHost ⟨q, none, .none⟩).setTurns [.host]

/-- `s` with the sequencer in phase `p` and the sequencer as the next agent. -/
def inPhase (p : Phase) (s : State) : State := (s.setSeq p).setTurns [.sequencer]

/-! ### Well-formedness and decoding -/

/-- R70, R79 (c): the one reserved field value of the map is refused by the check; TID = 3 and CHSEL = 0 are not (R73, R80). -/
theorem test_wellFormed_refuses_dir3 :
    (Instr.tmcfg 0x01#8 true false true 3#2 1#2).wellFormed = false ∧
    (Instr.tmcfg 0x00#8 true false true 2#2 3#2).wellFormed = true := by decide

/-- Format Z, from Table R78. -/
theorem test_decode_z :
    decode 0x01000000#32 = .ok .ckdrv ∧ decode 0x02000000#32 = .ok .ckws ∧ decode 0x03000000#32 = .ok .ckaux ∧
    decode 0x04000000#32 = .ok .ckcfg ∧ decode 0x10000000#32 = .ok .stcalc ∧ decode 0x11000000#32 = .ok .stcfg ∧
    decode 0x12000000#32 = .ok .stget ∧ decode 0x13000000#32 = .ok .stset ∧ decode 0x14000000#32 = .ok .sten ∧
    decode 0x15000000#32 = .ok .stdis ∧ decode 0x20000000#32 = .ok .tmpsc ∧ decode 0x30000000#32 = .ok .pwccr := by
  decide

/-- Formats B and T, from R72, R73. -/
theorem test_decode_b_t :
    decode 0x16000000#32 = .ok (.stcb false) ∧ decode 0x16000001#32 = .ok (.stcb true) ∧
    decode 0x17000000#32 = .ok (.std2t false) ∧ decode 0x17000001#32 = .ok (.std2t true) ∧
    decode 0x22000001#32 = .ok (.tmen 1#2) ∧ decode 0x23000002#32 = .ok (.tmdis 2#2) ∧
    decode 0x24000003#32 = .ok (.tmrst 3#2) ∧ decode 0x25000000#32 = .ok (.tmirq 0#2) ∧
    decode 0x26000001#32 = .ok (.tmclr 1#2) ∧ decode 0x27000002#32 = .ok (.tmack 2#2) := by decide

/-- Formats TC, P, D: the words assembled in 95_test_vectors.md 2.6, and each one-bit field alone (R74 to R76). -/
theorem test_decode_tc_p_d :
    decode 0x21000150#32 = .ok (.tmcfg 0x01#8 true false true 0#2 0#2) ∧
    decode 0x2100FF2A#32 = .ok (.tmcfg 0xFF#8 false true false 2#2 2#2) ∧
    decode 0x21000244#32 = .ok (.tmcfg 0x02#8 true false false 1#2 0#2) ∧
    decode 0x21000410#32 = .ok (.tmcfg 0x04#8 false false true 0#2 0#2) ∧
    decode 0x31000C1D#32 = .ok (.pwcfg 0x0C#8 true true true 1#2) ∧
    decode 0x31000110#32 = .ok (.pwcfg 0x01#8 true false false 0#2) ∧
    decode 0x31000108#32 = .ok (.pwcfg 0x01#8 false true false 0#2) ∧
    decode 0x31000204#32 = .ok (.pwcfg 0x02#8 false false true 0#2) ∧
    decode 0x3200FF02#32 = .ok (.pwduty 0xFF#8 2#2) := by decide

/-- The refused words of 95_test_vectors.md 2.6, and of R78's gaps. -/
theorem test_decode_refuses :
    decode 0x00000000#32 = .error .badOp ∧ decode 0x05000000#32 = .error .badOp ∧
    decode 0x18000000#32 = .error .badOp ∧ decode 0x28000000#32 = .error .badOp ∧
    decode 0x33000000#32 = .error .badOp ∧ decode 0xFF000000#32 = .error .badOp ∧
    decode 0x04000001#32 = .error .field ∧ decode 0x16000002#32 = .error .field ∧
    decode 0x22000004#32 = .error .field ∧ decode 0x210000D0#32 = .error .field ∧
    decode 0x2100015D#32 = .error .field ∧ decode 0x2100015F#32 = .error .field ∧
    decode 0x31000120#32 = .error .field ∧ decode 0x32000104#32 = .error .field := by decide

/-- The encoder on the assembling lines of 95_test_vectors.md 2.6. -/
theorem test_encode :
    encode (.tmcfg 0x01#8 true false true 0#2 0#2) = 0x21000150#32 ∧
    encode (.pwcfg 0x0C#8 true true true 1#2) = 0x31000C1D#32 ∧
    encode (.pwduty 0xFF#8 2#2) = 0x3200FF02#32 ∧ encode (.std2t true) = 0x17000001#32 := by decide

/-! ### One step per command, from 95_test_vectors.md -/

/-- 2.1 row 13: floors at each stage. -/
theorem test_ckdrv_floors :
    ran 0x01000000 ((State.reset.setClkreq 0x001527F2#32).setFlreq 2#32) (fun t =>
      decide (t.res = ⟨56000000, 109375, 6835, 54687⟩ ∧ t.ckflags = 0x00#6)) = true := by decide

/-- 2.1 row 8: V_CORE and V_WS; row 14: V_SW alone and all results 0. -/
theorem test_ckdrv_flags :
    ran 0x01000000 ((State.reset.setClkreq 0x00390582#32).setFlreq 2#32) (fun t => t.ckflags == 0x21#6) = true ∧
    ran 0x01000000 ((State.reset.setClkreq 0x001D0403#32).setFlreq 2#32) (fun t =>
      decide (t.res = ⟨0, 0, 0, 0⟩ ∧ t.ckflags = 0x10#6)) = true := by decide

/-- 2.2: just past a threshold, and the marker. -/
theorem test_ckws :
    ran 0x02000000 (withOps 24000001 0 0 State.reset) (fun t => t.res.r0 == 1#32) = true ∧
    ran 0x02000000 (withOps 72000001 0 0 State.reset) (fun t => t.res.r0 == 3#32) = true := by decide

/-- 2.1 rows 4 and 18: the PLL value feeds USB under SW = 1; the ADC clock divides APB2. -/
theorem test_ckaux :
    ran 0x03000000 (State.reset.setClkreq 0x00010001#32) (fun t =>
      t.res.r0 == 4000000#32 && t.res.r1 == 10666666#32) = true ∧
    ran 0x03000000 (State.reset.setClkreq 0x001D0482#32) (fun t =>
      t.res.r0 == 18000000#32 && t.res.r1 == 48000000#32) = true := by decide

/-- P1 line 3. -/
theorem test_ckcfg_accepted :
    ran 0x04000000 ((State.reset.setClkreq 0x001D0402#32).setFlreq 0x12#32) (fun t =>
      t.seq == .flash && t.img.flash == 0#32 && t.err == .none) = true := by decide

/-- 2.6: E_CLKINV; E_CLKDONE even where the request is also invalid. -/
theorem test_ckcfg_refused :
    refusedAs 0x04000000 ((State.reset.setClkreq 0x001D0002#32).setFlreq 0x12#32) .clkInv = true ∧
    refusedAs 0x04000000 (clocked.setClkreq 0x001D0002#32) .clkDone = true := by decide

/-- 2.3: the first period that does not fit, and the largest result. -/
theorem test_stcalc :
    ran 0x10000000 (withOps 233017 0 0 clocked) (fun t => decide (t.res = ⟨0x01000008, 0, 0, 0⟩)) = true ∧
    ran 0x10000000 (withOps 0xFFFFFFFF 0 0 clocked) (fun t => decide (t.res = ⟨0xFFFFFFB8, 71, 0, 0⟩)) = true := by
  decide +kernel

/-- 2.3, 2.6: a period that fits; the clock not configured. -/
theorem test_stcalc_fits_and_refused :
    ran 0x10000000 (withOps 1000 0 0 clocked) (fun t => decide (t.res = ⟨72000, 0, 1, 0⟩)) = true ∧
    refusedAs 0x10000000 State.reset .noClk = true := by decide +kernel

/-- 2.6, P4 lines 25 to 28: the largest period, one past it, and 0. -/
theorem test_stcfg :
    ran 0x11000000 (withOps 0x00FFFFFF 0 0 ticking) (fun t =>
      t.st.reload == 16777215#24 && t.st.load == 16777215#24 && t.tick == 0#64 && t.st.state == .running) = true ∧
    refusedAs 0x11000000 (withOps 0x01000000 0 0 ticking) .stRange = true ∧
    refusedAs 0x11000000 (withOps 0 0 0 ticking) .stRange = true := by decide

/-- P4 lines 12 and 13. -/
theorem test_stget :
    ran 0x12000000 (State.reset.setTick 0x0000000100000000#64) (fun t =>
      t.res.r0 == 0#32 && t.res.r1 == 1#32) = true := by decide

/-- R125, R28: with TICK_W = 32, R1 is 0. -/
theorem test_stget_narrow :
    ran 0x12000000 ({ State.reset with cfg := { Config.standard with tickW := .w32 } }.setTick 7#64) (fun t =>
      t.res.r0 == 7#32 && t.res.r1 == 0#32) = true := by decide

/-- P4 lines 6 to 8 and 14 to 16: the low word comes from A0, the high word from A1. -/
theorem test_stset :
    ran 0x13000000 (withOps 500 0 0 State.reset) (fun t => t.tick == 500#64) = true ∧
    ran 0x13000000 (withOps 1 0xFFFFFFFF 0 State.reset) (fun t => t.tick == 0xFFFFFFFF00000001#64) = true := by decide

/-- P4 line 21; P3 line 2. -/
theorem test_sten :
    ran 0x14000000 (ticking.setSt { ticking.st with state := .stopped, enable := false }) (fun t =>
      t.st.state == .running && t.st.enable) = true ∧
    refusedAs 0x14000000 State.reset .stState = true := by decide

/-- P4 line 18; 2.6: accepted with no effect where Unconfigured. -/
theorem test_stdis :
    ran 0x15000000 ticking (fun t => t.st.state == .stopped && !t.st.enable && t.st.tickint) = true ∧
    ran 0x15000000 State.reset (fun t => decide (t = respond .done State.reset)) = true := by decide

/-- 2.6, P4 line 23. -/
theorem test_stcb :
    ran 0x16000001 State.reset (fun t => t.st.cbEn && (readReg t .status).getLsbD 4) = true ∧
    ran 0x16000000 ticking (fun t => !t.st.cbEn) = true := by decide

/-- 2.3: the ceiling, and the largest result. -/
theorem test_std2t :
    ran 0x17000000 (withOps 1001 0 0 ticking) (fun t => t.res.r0 == 2#32 && t.res.r1 == 0#32) = true ∧
    ran 0x17000001 (withOps 0xFFFFFFFF 0 0 (ticking.setSt { ticking.st with reload := 1 })) (fun t =>
      t.res.r0 == 0xFFFEE6C0#32 && t.res.r1 == 0x0001193F#32) = true := by decide

/-- 2.6: E_NOCLK before E_STSTATE. -/
theorem test_std2t_refused :
    refusedAs 0x17000000 State.reset .noClk = true ∧ refusedAs 0x17000001 clocked .stState = true := by decide

/-- 2.4 rows 4, 11 and 17: clamped and not wrapped; a tie; a lowered operand. -/
theorem test_tmpsc :
    ran 0x20000000 (withOps 72000000 1 999 State.reset) (fun t => t.res.r0 == 65535#32 && t.res.r1 == 2#32) = true ∧
    ran 0x20000000 (withOps 72000000 144000000 0 State.reset) (fun t => t.res.r0 == 0#32 && t.res.r1 == 0#32) = true ∧
    ran 0x20000000 (withOps 72000000 10000 70000 State.reset) (fun t => t.res.r0 == 0#32 && t.res.r1 == 5#32) = true := by
  decide

/-- 2.4 row 21. -/
theorem test_tmpsc_div0 : refusedAs 0x20000000 (withOps 72000000 0 999 clocked) .div0 = true := by decide

/-- P2 lines 1 to 9. -/
theorem test_tmcfg :
    ran 0x21000150 (withOps 10000 999 0 clocked) (fun t =>
      decide (t.tim = timed.tim ∧ t.nvicEn = timed.nvicEn ∧ t.clamp = 0 ∧
        readReg t (.bank .t0 .tctl) = 0x000001A8#32)) = true := by decide

/-- 2.6: the order of TMCFG's refusals. -/
theorem test_tmcfg_refused :
    refusedAs 0x2100015F State.reset .field = true ∧ refusedAs 0x21000153 State.reset .timId = true ∧
    refusedAs 0x21001050 State.reset .chSel = true ∧ refusedAs 0x21000150 State.reset .noClk = true ∧
    refusedAs 0x21000150 clocked .div0 = true := by decide

/-- P2 line 16; 2.6. -/
theorem test_tmen :
    ran 0x22000000 timed (fun t => readReg t (.bank .t0 .tctl) == 0x000001A9#32) = true ∧
    refusedAs 0x22000000 State.reset .noTim = true ∧ refusedAs 0x22000003 State.reset .timId = true := by decide

/-- P2 line 42 (EN and CNT_INIT to 0, the rest kept). -/
theorem test_tmdis :
    ran 0x23000000
      (timed.setTim (timed.tim.set .t0 { timed.tim.t0 with en := true, uif := true, cntInit := 5 })) (fun t =>
        readReg t (.bank .t0 .tctl) == 0x000001E8#32 && t.tim.t0.cntInit == 0#16) = true := by decide

/-- P2 lines 43 to 47. -/
theorem test_tmrst :
    ran 0x24000000 pulsed (fun t =>
      decide (t.tim = State.reset.tim ∧ t.pwm = State.reset.pwm ∧ t.nvicEn = State.reset.nvicEn)) = true := by decide

/-- P2 line 19: the flag is read and stays. -/
theorem test_tmirq :
    ran 0x25000000 (timed.setTim (timed.tim.set .t0 { timed.tim.t0 with uif := true })) (fun t =>
      t.res.r0 == 1#32 && t.tim.t0.uif) = true := by decide

/-- 2.7: TMCLR with UIF = 1 and UIE = 1; another bank's flag stays. -/
theorem test_tmclr :
    ran 0x26000000
      (timed.setTim { timed.tim with t0 := { timed.tim.t0 with uif := true }, t1 := { Timer.reset with uif := true } })
      (fun t => !t.tim.t0.uif && !timIrq t .t0 && t.tim.t1.uif) = true := by decide

/-- P2 line 20. -/
theorem test_tmack :
    ran 0x27000000 (timed.setTim (timed.tim.set .t0 { timed.tim.t0 with en := true, uif := true })) (fun t =>
      readReg t (.bank .t0 .tctl) == 0x000001A9#32) = true := by decide

/-- 2.5 rows 3, 11, 23: a negative duty, a tie, the one CCR clamp. -/
theorem test_pwccr :
    ran 0x30000000 (withOps 0xFFFFFFEC 999 0 State.reset) (fun t => t.res.r0 == 0#32 && t.res.r1 == 1#32) = true ∧
    ran 0x30000000 (withOps 5 9 0 State.reset) (fun t => t.res.r0 == 1#32 && t.res.r1 == 0#32) = true ∧
    ran 0x30000000 (withOps 100 65535 0 State.reset) (fun t => t.res.r0 == 65535#32 && t.res.r1 == 2#32) = true := by
  decide

/-- P2 lines 10 to 15. -/
theorem test_pwcfg :
    ran 0x31000110 (withOps 50 0 0 timed) (fun t => decide (t.pwm = pulsed.pwm ∧ t.clamp = 0)) = true := by decide

/-- P2 lines 28 and 32 to 34: no preload, so active at once. -/
theorem test_pwcfg_unbuffered :
    ran 0x31000204 (withOps 25 0 0 pulsed) (fun t =>
      t.pwm.t0.c2.ccrAct == 250#16 && readReg t (.bank .t0 .pwmctl) == 0x0000009C#32) = true := by decide

/-- P2 lines 21 to 23: the preload changes, the active value waits. -/
theorem test_pwduty :
    ran 0x32000100 (withOps 150 0 0 pulsed) (fun t =>
      t.pwm.t0.c1.duty == 100#7 && t.pwm.t0.c1.ccrPre == 1000#16 && t.pwm.t0.c1.ccrAct == 0#16 &&
        t.clamp == 0x10#6) = true := by decide

/-- P2 lines 28 to 30: one selected channel unconfigured, so nothing is written. -/
theorem test_pwduty_refused : refusedAs 0x32000300 (withOps 25 0 0 pulsed) .noPwm = true := by decide

/-! ### Events, the window, the port -/

/-- 2.7: tick events, Running with a callback and at the wrap; ignored where Unconfigured. -/
theorem test_tick_event :
    (tickEvent ticking).tick = 42#64 ∧ (tickEvent ticking).cb = ⟨true, 1⟩ ∧
    (tickEvent (ticking.setTick 0xFFFFFFFFFFFFFFFF#64)).tick = 0#64 ∧ tickEvent State.reset = State.reset := by decide

/-- 2.7: an update event after reset, and one with preloads waiting. -/
theorem test_update_event :
    readReg (updateEvent .t1 State.reset) (.bank .t1 .tctl) = 0x00000040#32 ∧
    (updateEvent .t1 State.reset).tim.t1.arrAct = 0xFFFF#16 ∧ (updateEvent .t0 pulsed).tim.t0.arrAct = 999#16 ∧
    (updateEvent .t0 pulsed).pwm.t0.c1.ccrAct = 500#16 ∧ timIrq (updateEvent .t0 pulsed) .t0 = true := by decide

/-- P1 lines 16 and 27: STATUS. -/
theorem test_status :
    readReg clocked .status = 0x0000B002#32 ∧
    readReg (ticking.setSt { ticking.st with cbEn := false }) .status = 0x0700B006#32 := by decide

/-- 2.1: the write masks of CLKREQ and FLREQ. -/
theorem test_write_masks :
    (writeReg .clkreq 0xFFFFFFFF#32 State.reset).clkreq = 0x007FFFF3#32 ∧
    (writeReg .flreq 0xFFFFFFFF#32 State.reset).flreq = 0x00000017#32 := by decide

/-- P3 line 19: a write to CMD while the sequencer holds is stalled. -/
theorem test_stalled_write :
    (match step (issuing [writeAccess State.reset.cfg .cmd 0x12000000#32] (inPhase .pllWait State.reset)) with
      | .next t => t.host.resp == .stalled && t.host.port.isSome
      | .fault _ => false
      | .refused _ => false) = true := by decide

/-- P1 lines 8 to 11: the hold in HSEWAIT, then CFGR's one write. -/
theorem test_sequencer :
    seqStep (inPhase .hseWait State.reset) = inPhase .hseWait State.reset ∧
    (seqStep (inPhase .cfgr (clocked.setImg ⟨0x12, 0x00010000, 0⟩))).img.cfgr = 0x001D0400#32 ∧
    (seqStep (inPhase .cfgr (clocked.setImg ⟨0x12, 0x00010000, 0⟩))).seq = .pllOn := by decide

/-- R91: a corrected table in the configuration record changes what CKAUX answers (2.1 row 18 with ADCPRE = 1 dividing by 3:
72 MHz / 3), and the record stays legal. -/
theorem test_selector_table_replaced :
    (let cfg := { Config.standard with sel := { Selectors.tableR91 with adc := #v[2, 3, 6, 8] } }
     decide cfg.wf && ran 0x03000000 ({ State.reset with cfg := cfg }.setClkreq 0x001D4402#32) fun t =>
       t.res.r0 == 24000000#32 && t.res.r1 == 48000000#32) = true := by decide

/-- R131, R246: DELAY_MS 5 from TICK = 41 spins on where no tick comes; a handler's `WR A0, 46; STSET` between two of its
readings ends it, and the same handler before its first reading (so start = 46) does not. -/
theorem test_delay_handler :
    let handler := Turn.handler [writeAccess ticking.cfg .a0 46#32, writeAccess ticking.cfg .cmd 0x13000000#32]
    (delay 12 true 5#32 ticking).isSome = false ∧
    (delay 12 true 5#32 (ticking.setTurns (List.replicate 7 .host ++ [handler]))).isSome = true ∧
    (delay 12 true 5#32 (ticking.setTurns (List.replicate 4 .host ++ [handler]))).isSome = false := by decide +kernel

/-- R254, R214: with a handler's access still listed the run is not over though the host's own list is empty; it ends after
that access, with the tick before it (TICK = 42) and without the tick after it. -/
theorem test_run_end_handler :
    let s := (ticking.setHost ⟨[], none, .none⟩).setTurns
      [.tick, .handler [writeAccess ticking.cfg .a1 9#32], .host, .tick]
    ¬ runOver s ∧ (runEnd 5 s).map (fun t => (t.ops.a1, t.tick)) = some (9#32, 42#64) := by decide

/-- R254: the run of P1 up to its CKCFG (lines 1 to 3) ends where the sequencer is done, the update event after the last access
no part of it; and with `hse_rdy` low it is a hang, with no end. -/
theorem test_run_end_sequencer :
    let s := fun hse => launch Config.standard ⟨hse, true, 2⟩
      [writeAccess Config.standard .clkreq 0x001D0402#32, writeAccess Config.standard .flreq 0x12#32,
       writeAccess Config.standard .cmd 0x04000000#32] [.host, .host, .host, .sequencer, .uev .t1]
    (runEnd 14 (s true)).map (fun t => (t.seq, t.clkValid, t.freqs.apb1, t.tim.t1.uif)) =
      some (.idle, true, 36000000#32, false) ∧ runEnd 14 (s false) = none := by decide

/-! ### Witnesses: states and operands that meet the hypotheses of each statement -/

theorem witness_DecodeOfEncode : (Instr.tmcfg 0xFF#8 true true true 2#2 3#2).wellFormed = true := by decide

theorem witness_EncodeOfDecode : decode 0x3200FF03#32 = .ok (.pwduty 0xFF#8 3#2) := by decide

/-- Case (a) at both ends of the gaps; (b) at the lowest and the highest reserved bit; (c); and words that are commands. -/
theorem witness_IllegalWordsRefused :
    reservedOf 0x00FFFFFF#32 = none ∧ reservedOf 0x05000000#32 = none ∧ reservedOf 0xFFFFFFFF#32 = none ∧
    (reservedOf 0x01000001#32 = some 0x00FFFFFF#32 ∧ 0x01000001#32 &&& 0x00FFFFFF#32 ≠ 0#32) ∧
    (reservedOf 0x32800000#32 = some 0x00FF00FC#32 ∧ 0x32800000#32 &&& 0x00FF00FC#32 ≠ 0#32) ∧
    (reservedOf 0x2100015F#32 = some 0x00FF0080#32 ∧ (0x2100015F#32).toNat / 2 ^ 24 = 0x21 ∧
      ((0x2100015F#32).toNat / 4) % 4 = 3) ∧
    (reservedOf 0x2100FF7B#32 = some 0x00FF0080#32 ∧ 0x2100FF7B#32 &&& 0x00FF0080#32 = 0#32 ∧
      ((0x2100FF7B#32).toNat / 4) % 4 ≠ 3) := by decide

/-- The host about to write `w` to CMD in `s`. -/
def commanding (w : Word) (s : State) : State := issuing [writeAccess s.cfg .cmd w] s

theorem commanding_issues (w : Word) (s : State) : HostIssues (commanding w s) (writeAccess s.cfg .cmd w) [] :=
  ⟨rfl, rfl, rfl⟩

theorem witness_StepRunsDecodedCommand :
    HostIssues (commanding 0x01000000#32 clocked) (writeAccess clocked.cfg .cmd 0x01000000#32) [] ∧
    (commanding 0x01000000#32 clocked).seq = .idle ∧ decode 0x01000000#32 = .ok .ckdrv ∧
    decode 0x05000000#32 = .error .badOp :=
  ⟨commanding_issues _ _, by decide, by decide, by decide⟩

theorem witness_PlacedCommandRunsNext : decodeTableWord 32 0x04000000 = some .ckcfg := by decide

/-- Both sides of the third clause at the ends of the reserved ranges. -/
theorem witness_WindowTableOneToOne :
    (regAt 0x1BC#10 = some (.bank .t2 (.ccrAct .c4)) ∧ (0x1BC#10).toNat % 4 = 0) ∧ regAt 0x038#10 = some .ckflags ∧
    regAt 0x03C#10 = none ∧ regAt 0x068#10 = some .oCfgr ∧ regAt 0x06C#10 = none ∧ regAt 0x0FC#10 = none ∧
    regAt 0x100#10 = some (.bank .t0 .tctl) ∧ regAt 0x1C0#10 = none ∧ regAt 0x3FC#10 = none := by decide

/-- A read of a register, of CMD, and of the last reserved offset. -/
theorem witness_ReadsChangeNothing (off : BitVec 10) :
    HostIssues (issuing [⟨clocked.cfg.baseHi ++ off, .word, .read⟩] clocked)
      ⟨clocked.cfg.baseHi ++ off, .word, .read⟩ [] ∧
    regAt 0x040#10 = some .fCore ∧ regAt 0x000#10 = some .cmd ∧ regAt 0x3FC#10 = none ∧ (0x3FC#10).toNat % 4 = 0 :=
  ⟨⟨rfl, rfl, rfl⟩, by decide, by decide, by decide, by decide⟩

/-- The host about to write `v` to register `r` in `s`. -/
theorem writing_issues (r : Reg) (v : Word) (s : State) :
    HostIssues (issuing [writeAccess s.cfg r v] s) (writeAccess s.cfg r v) [] := ⟨rfl, rfl, rfl⟩

/-- SEQ = 0 and SEQ ≠ 0 with a register that stalls, one that does not, and a reserved offset. -/
theorem witness_RegisterWriteClasses :
    HostIssues (issuing [writeAccess clocked.cfg .a3 7#32] clocked) (writeAccess clocked.cfg .a3 7#32) [] ∧
    (issuing [writeAccess clocked.cfg .a3 7#32] clocked).seq = .idle ∧
    HostIssues (issuing [writeAccess State.reset.cfg .flreq 7#32] (inPhase .freq State.reset))
      (writeAccess State.reset.cfg .flreq 7#32) [] ∧
    (issuing [writeAccess State.reset.cfg .flreq 7#32] (inPhase .freq State.reset)).seq ≠ .idle ∧
    Reg.flreq ∈ stallRegs ∧ Reg.err ∉ stallRegs ∧ regAt 0x3FC#10 = none ∧
    HostIssues (issuing [⟨clocked.cfg.baseHi ++ 0x3FC#10, .word, .write 7#32⟩] clocked)
      ⟨clocked.cfg.baseHi ++ 0x3FC#10, .word, .write 7#32⟩ [] :=
  ⟨writing_issues _ _ _, by decide, writing_issues _ _ _, by decide, by decide, by decide, by decide, ⟨rfl, rfl, rfl⟩⟩

/-- `s` at a turn of the host, with a write to `r` standing stalled. -/
def stalledAt (r : Reg) (s : State) : State :=
  (s.setHost ⟨[], some (writeAccess s.cfg r 7#32), .stalled⟩).setTurns [.host]

/-- A write first tried, one tried again, one released, and reads and writes that are not held, in the first and the last
phase. -/
theorem witness_StallWhileBusy :
    HostIssues (issuing [writeAccess State.reset.cfg .cmd 7#32] (inPhase .flash State.reset))
      (writeAccess State.reset.cfg .cmd 7#32) [] ∧
    (issuing [writeAccess State.reset.cfg .cmd 7#32] (inPhase .flash State.reset)).seq ≠ .idle ∧
    Reg.cmd ∈ stallRegs ∧
    nextTurn (stalledAt .clkreq (inPhase .freq State.reset)) = .host ∧
    (stalledAt .clkreq (inPhase .freq State.reset)).host.port = some (writeAccess State.reset.cfg .clkreq 7#32) ∧
    nextTurn (stalledAt .clkreq State.reset) = .host ∧ (stalledAt .clkreq State.reset).host.port.isSome = true ∧
    (stalledAt .clkreq State.reset).seq = .idle ∧
    HostIssues (issuing [readAccess State.reset.cfg .a0] (inPhase .freq State.reset))
      (readAccess State.reset.cfg .a0) [] :=
  ⟨writing_issues _ _ _, by decide, by decide, by decide, by decide, by decide, by decide, by decide, ⟨rfl, rfl, rfl⟩⟩

theorem witness_NarrowOrMisalignedAccess (off : BitVec 10) (size : AccessSize) (kind : AccessKind) :
    HostIssues (issuing [⟨clocked.cfg.baseHi ++ off, size, kind⟩] clocked) ⟨clocked.cfg.baseHi ++ off, size, kind⟩ [] ∧
    (AccessSize.byte ≠ .word ∧ AccessSize.half ≠ .word) ∧ (0x001#10).toNat % 4 ≠ 0 ∧ (0x3FF#10).toNat % 4 ≠ 0 :=
  ⟨⟨rfl, rfl, rfl⟩, by decide, by decide, by decide⟩

theorem witness_StatusLayout : (0x0000B002#32 : Word) = readReg clocked .status := by decide

theorem witness_BankViewLayouts :
    (0x000001A8#32 : Word) = readReg pulsed (.bank .t0 .tctl) ∧
    (0x0000000C#32 : Word) = readReg pulsed (.bank .t0 .pwmctl) ∧
    (0x00000032#32 : Word) = readReg pulsed (.bank .t0 .duty) ∧ (pulsed.pwm.get .t0).get .c1 = pulsed.pwm.t0.c1 ∧
    pulsed.tim.get .t0 = pulsed.tim.t0 := by decide

/-- Each command that can be refused, refused for its first and for its last check, and accepted. -/
theorem witness_ExactRefusals :
    (clocked.cfg.wf ∧ timed.cfg.wf ∧ pulsed.cfg.wf) ∧ firstFailure (checks .ckcfg clocked) = some .clkDone ∧
    firstFailure (checks .ckcfg (State.reset.setClkreq 3#32)) = some .clkInv ∧
    firstFailure (checks .stcalc State.reset) = some .noClk ∧
    firstFailure (checks .stcfg (withOps 0 0 0 State.reset)) = some .stRange ∧
    firstFailure (checks .stcfg (withOps 0x01000000 0 0 State.reset)) = some .stRange ∧
    firstFailure (checks .sten State.reset) = some .stState ∧
    firstFailure (checks (.std2t true) clocked) = some .stState ∧ firstFailure (checks .tmpsc clocked) = some .div0 ∧
    firstFailure (checks (.tmcfg 0#8 false false false 3#2 3#2) State.reset) = some .field ∧
    firstFailure (checks (.tmcfg 0x0F#8 false false false 2#2 2#2) clocked) = some .div0 ∧
    firstFailure (checks (.tmen 0#2) clocked) = some .noTim ∧ firstFailure (checks (.tmack 3#2) clocked) = some .timId ∧
    firstFailure (checks (.pwcfg 0xFE#8 true true true 0#2) timed) = some .chSel ∧
    firstFailure (checks (.pwduty 0x03#8 0#2) pulsed) = some .noPwm ∧
    firstFailure (checks (.pwduty 0x01#8 0#2) pulsed) = none ∧ firstFailure (checks .ckdrv State.reset) = none := by
  decide

theorem witness_CommandFootprint :
    (∃ t, exec (.pwcfg 0x01#8 true false false 0#2) timed = .next t) ∧
    Piece.timRest .t0 ∉ mayWrite timed.cfg (.pwcfg 0x01#8 true false false 0#2) := ⟨⟨_, rfl⟩, by decide⟩

theorem witness_ClockTreeFormulas :
    Config.standard.sel = State.reset.cfg.sel ∧
    ({ Config.standard with sel := { Selectors.tableR91 with adc := #v[2, 3, 6, 8] } } : Config).sel ≠
      State.reset.cfg.sel := by decide

theorem witness_ValidityFlags :
    Config.standard.wf ∧ (0x001D0403#32).toNat % 4 = 3 ∧ (0x00390582#32).toNat % 4 ≠ 3 ∧
    ckflagsOf Config.standard 0x00390582#32 2#32 = 0x21#6 := by decide

theorem witness_ValidRequestsWithinLimits :
    Config.standard.wf ∧ ckflagsOf Config.standard 0x001D0402#32 0x12#32 = 0#6 := by decide

theorem witness_CkdrvDerivesFrequencies : (State.reset.setClkreq 0x001D0403#32).clkreq.toNat % 4 = 3 := by decide

theorem witness_CkwsSelectsWaitStates : State.reset.cfg.wf := legal

theorem witness_CkauxAdcUsbClocks :
    clocked.cfg.sel = State.reset.cfg.sel ∧ (State.reset.setClkreq 0x001D0403#32).clkreq.toNat % 4 = 3 ∧ clocked.clkreq.toNat % 4 ≠ 3 := by decide

/-- P1 lines 1 to 3: the request of program P1 on a clock not yet configured. -/
def requested : State :=
  { State.reset with clkreq := 0x001D0402, flreq := 0x12, inputs := ⟨true, true, 2⟩ }

theorem witness_CkcfgStartsSequencer :
    clocked.clkValid = true ∧ requested.clkValid = false ∧
    ckflagsOf requested.cfg requested.clkreq requested.flreq = 0#6 ∧
    ckflagsOf requested.cfg 0x001D0002#32 requested.flreq ≠ 0#6 := by decide

/-- A hold in PLLWAIT through a tick event, an update event, an input change that does not meet it, the entry of a handler
and a sequencer turn (95 2.7, P3). -/
def hung : State :=
  (State.reset.setSeq .pllWait).setTurns [.tick, .uev .t1, .inputs ⟨true, false, 3⟩, .handler [], .sequencer]

/-- Every phase has a turn of the sequencer; a hold is met and not met; both branches of CFGR; a change of the inputs, a host
with nothing to issue, and a handler entered while another access waits. -/
theorem witness_SequencerPhaseSteps (p : Phase) :
    nextTurn (inPhase p requested) = .sequencer ∧ (inPhase p requested).seq = p ∧
    requested.inputs.hseRdy = true ∧ State.reset.inputs.hseRdy = false ∧ requested.clkreq.toNat % 4 = 2 ∧
    State.reset.clkreq.toNat % 4 ≠ 2 ∧ nextTurn (hung.setTurns [.inputs ⟨true, true, 3⟩]) = .inputs ⟨true, true, 3⟩ ∧
    (nextTurn clocked = .host ∧ clocked.host.port = none ∧ clocked.host.queue = []) ∧
    nextTurn ((issuing [readAccess clocked.cfg .r0] clocked).setTurns [.handler [readAccess clocked.cfg .r1]]) =
      .handler [readAccess clocked.cfg .r1] :=
  ⟨rfl, rfl, by decide, by decide, by decide, by decide, rfl, ⟨rfl, rfl, rfl⟩, rfl⟩

/-- A command, a phase and the reset each change SEQ. -/
theorem witness_PhaseGraphOnly :
    (∃ t, step (commanding 0x04000000#32 requested) = .next t ∧ t.seq = .flash) ∧
    (∃ t, step (inPhase .cfgr requested) = .next t ∧ t.seq = .pllOn) ∧
    (∃ t, step ((State.reset.setSeq .flash).setTurns [.rst]) = .next t ∧ t.seq = .idle) :=
  ⟨⟨_, rfl, by decide⟩, ⟨_, rfl, by decide⟩, ⟨_, rfl, by decide⟩⟩

/-- A state whose time base, banks, channels and TICK are at reset meets the invariant if its clock does. -/
theorem inv_of_clock {s : State} (hp : s.cfg.wf) (hm : MasksInv s) (hc : ClockInv s) (hs : s.st = State.reset.st)
    (hk : s.tick = State.reset.tick) (ht : s.tim = State.reset.tim) (hw : s.pwm = State.reset.pwm)
    (hn : s.nvicEn = State.reset.nvicEn) : EngineInv s := by
  refine ⟨hp, hm, hc, ⟨?_, ?_, ?_, ?_⟩, fun t => ⟨?_, ?_, ?_, ?_⟩, fun t c => ⟨?_, ?_, ?_, ?_⟩⟩ <;>
    simp only [hs, hk, ht, hw, hn]
  · decide
  · exact fun h => absurd rfl h
  · decide
  · intro _
    decide
  · cases t <;> decide
  · cases t <;> decide
  · intro h
    cases t <;> cases h
  · cases t <;> decide
  · cases t <;> cases c <;> decide
  · cases t <;> cases c <;> decide
  · intro h
    cases t <;> cases c <;> cases h
  · cases t <;> cases c <;> decide

/-- CKCFG as the next access of the host, in the default order of agents. -/
def bringing (s : State) : State := s.setHost ⟨[writeAccess s.cfg .cmd 0x04000000#32], none, .none⟩

/-- The reset request, which selects the internal oscillator, with the inputs answering. -/
def internal : State := State.reset.setInputs ⟨true, true, 0⟩

theorem inv_requested {s : State} (h : s = commanding 0x04000000#32 requested ∨ s = bringing requested ∨
    s = bringing internal) : EngineInv s := by
  rcases h with rfl | rfl | rfl <;>
    exact inv_of_clock legal ⟨by decide, by decide, by decide, by decide, by decide⟩
      ⟨fun _ => rfl, fun h => absurd rfl h, fun _ => rfl, fun h => (by cases h), fun h => (by cases h), fun h => (by cases h)⟩
      rfl rfl rfl rfl rfl

/-- The request of program P1, with the PLL; and the reset request, without. -/
theorem witness_ClockBringUpCompletes (s : State) (h : s = bringing requested ∨ s = bringing internal) :
    EngineInv s ∧ s.turns = [] ∧ HostIssues s (writeAccess s.cfg .cmd 0x04000000#32) [] ∧ s.seq = .idle ∧
    s.clkValid = false ∧ ckflagsOf s.cfg s.clkreq s.flreq = 0#6 ∧ s.inputs.hseRdy = true ∧ s.inputs.pllRdy = true ∧
    s.inputs.sws = reqSw s.clkreq ∧ reqSw requested.clkreq = 2#2 ∧ reqSw internal.clkreq ≠ 2#2 := by
  refine ⟨inv_requested (.inr h), ?_⟩
  rcases h with rfl | rfl <;>
    exact ⟨rfl, ⟨rfl, rfl, rfl⟩, rfl, rfl, by decide, rfl, rfl, by decide, by decide, by decide⟩

theorem witness_HangPersists :
    holding hung ∧ (∀ x ∈ hung.turns, ¬ Releases hung x) ∧ ∃ t, Sys2Proof.core.run 5 hung = .next t := by
  refine ⟨⟨by decide, by decide⟩, ?_, ⟨_, rfl⟩⟩
  intro x hx
  simp only [hung, State.setTurns_turns, List.mem_cons, List.not_mem_nil, or_false] at hx
  rcases hx with rfl | rfl | rfl | rfl | rfl <;> simp [Releases, seqEnabled, hung]

/-- The invariant holds of a clock that is configured (program P1's end state). -/
theorem inv_clocked : EngineInv clocked :=
  inv_of_clock (by decide) ⟨by decide, by decide, by decide, by decide, by decide⟩
    ⟨fun h => (by cases h), fun h => absurd rfl h, fun h => (by cases h), fun _ => (by decide), fun _ => (by decide),
      fun _ => (by decide)⟩ rfl rfl rfl rfl rfl

theorem witness_ClockConfiguredOnce :
    EngineInv clocked ∧ clocked.clkValid = true ∧ nextTurn clocked ≠ .rst ∧ ∃ t, step clocked = .next t :=
  ⟨inv_clocked, rfl, by decide, ⟨_, rfl⟩⟩

theorem witness_StcalcReloadValue :
    clocked.cfg.wf ∧ (withOps 0xFFFFFFFF 0 0 clocked).clkValid = true ∧
    309237645240 = (2 * (withOps 0xFFFFFFFF 0 0 clocked).freqs.core.toNat *
      (withOps 0xFFFFFFFF 0 0 clocked).ops.a0.toNat + 1000000) / 2000000 ∧
    firstFailure (checks .stcalc State.reset) = some .noClk := by decide +kernel

theorem witness_StcfgStartsTimeBase :
    State.reset.cfg.wf ∧ (1 ≤ (withOps 1 0 0 State.reset).ops.a0.toNat ∧ (withOps 1 0 0 State.reset).ops.a0.toNat ≤ 16777215) ∧
    (1 ≤ (withOps 16777215 0 0 State.reset).ops.a0.toNat ∧
      (withOps 16777215 0 0 State.reset).ops.a0.toNat ≤ 16777215) := by decide

theorem witness_StgetSnapshot :
    clocked.cfg.tickW = .w64 ∧ ({ Config.standard with tickW := .w32 } : Config).tickW = .w32 := by decide

theorem witness_StsetThenTick : ticking.st.state = .running := by decide

theorem witness_StenStdisToggle :
    State.reset.st.state = .unconfigured ∧ ticking.st.state = .running ∧
    (setRunState .stopped false ticking).st.state = .stopped := by decide

theorem witness_StcbRegistersCallback : ticking.st.state = .running := by decide

/-- The shortest and the longest period. -/
theorem witness_Std2tLeastTicks :
    ticking.cfg.wf ∧ ticking.clkValid = true ∧ ticking.st.state ≠ .unconfigured ∧ ticking.st.reload ≠ 0#24 ∧ (1#24) ≠ 0#24 ∧
    (0xFFFFFF#24) ≠ 0#24 ∧ firstFailure (checks (.std2t false) State.reset) = some .noClk := by decide

/-- Each of the four causes changes ST_STATE. -/
theorem witness_TimeBaseTransitions :
    (∃ t, step (ticking.setTurns [.rst]) = .next t ∧ t.st.state = .unconfigured) ∧
    (∃ t, step (commanding 0x11000000#32 (withOps 1 0 0 State.reset)) = .next t ∧ t.st.state = .running) ∧
    (∃ t, step (commanding 0x15000000#32 ticking) = .next t ∧ t.st.state = .stopped) ∧
    (∃ t, step (commanding 0x14000000#32 (setRunState .stopped false ticking)) = .next t ∧ t.st.state = .running) :=
  ⟨⟨_, rfl, by decide⟩, ⟨_, rfl, by decide⟩, ⟨_, rfl, by decide⟩, ⟨_, rfl, by decide⟩⟩

theorem witness_TickEventStep :
    nextTurn (ticking.setTurns [.tick]) = .tick ∧ ticking.st.state = .running ∧
    nextTurn (clocked.setTurns [.tick]) = .tick ∧ clocked.st.state ≠ .running := by decide

/-- Each of the four causes changes TICK. -/
theorem witness_TickWriters :
    (∃ t, step (ticking.setTurns [.tick]) = .next t ∧ t.tick = 42#64) ∧
    (∃ t, step (commanding 0x11000000#32 (withOps 1 0 0 ticking)) = .next t ∧ t.tick = 0#64) ∧
    (∃ t, step (commanding 0x13000000#32 (withOps 500 0 0 ticking)) = .next t ∧ t.tick = 500#64) ∧
    (∃ t, step (ticking.setTurns [.rst]) = .next t ∧ t.tick = 0#64) :=
  ⟨⟨_, rfl, by decide⟩, ⟨_, rfl, by decide⟩, ⟨_, rfl, by decide⟩, ⟨_, rfl, by decide⟩⟩

/-- At the largest TICK, which wraps, with every kind of turn the statement admits. -/
theorem witness_TicksCountedExactly :
    ((ticking.setTick 0xFFFFFFFFFFFFFFFF#64).setTurns [.tick, .uev .t0, .inputs ⟨false, false, 0⟩, .handler [], .sequencer, .host]).turns =
      [.tick, .uev .t0, .inputs ⟨false, false, 0⟩, .handler [], .sequencer] ++ [.host] ∧
    (∀ x ∈ [Turn.tick, .uev .t0, .inputs ⟨false, false, 0⟩, .handler [], .sequencer], eventTurn x = true) ∧
    ticking.st.state = .running ∧ (0xFFFFFFFFFFFFFFFF#64).toNat < 2 ^ tickBits ticking.cfg := by decide

/-- 95 2.4: a quotient of 0 (row 12), the ends of the range (rows 8, 11 and 14), and one too large (rows 4 and 13). -/
theorem witness_PrescalerNearestClamped :
    Config.standard.wf ∧ (1 ≤ 144000001 ∧ 2 * 72000000 + 144000001 * (0 + 1) < 2 * (144000001 * (0 + 1)) * (0 + 1)) ∧
    (1 ≤ 72000000 ∧ 2 * (72000000 * (0 + 1)) * 1 ≤ 2 * 72000000 + 72000000 * (0 + 1)) ∧
    (1 ≤ 1099 ∧ 2 * (1099 * (0 + 1)) * 65514 ≤ 2 * 72000000 + 1099 * (0 + 1) ∧ 65514 ≤ 65536) ∧
    (1 ≤ 1098 ∧ 2 * (1098 * (0 + 1)) * 65574 ≤ 2 * 72000000 + 1098 * (0 + 1) ∧ 65536 < 65574) ∧
    (1 ≤ 1 ∧ (65535 : Nat) ≤ 65535) := by decide

theorem witness_TimerClockFromApb1 :
    clocked.cfg.wf ∧ clocked.cfg.sel = State.reset.cfg.sel ∧ EngineInv clocked := ⟨legal, rfl, inv_clocked⟩

theorem witness_TmpscPrescaler :
    State.reset.cfg.wf ∧ (withOps 72000000 10000 70000 State.reset).ops.a1 ≠ 0#32 ∧
    (⟨0, true, false⟩ : PscResult) = pscOf State.reset.cfg 72000000 10000 (min 70000 65535) ∧
    (5#32).toNat = (if true then 1 else 0) + (if false then 2 else 0) + (if 65535 < 70000 then 4 else 0) := by decide

/-- With the clock configured, A0 at its least and the highest DIR, TID and CHSEL that are accepted. -/
theorem witness_TmcfgConfiguresBank :
    clocked.cfg.wf ∧ Passes (.tmcfg 0xFF#8 true true true 2#2 2#2) (withOps 1 65536 65536 clocked) ∧ timOf State.reset.cfg 2#2 = some .t2 ∧
    Passes (.tmcfg 0x01#8 true false true 0#2 0#2) (withOps 10000 999 0 clocked) ∧ timOf State.reset.cfg 0#2 = some .t0 ∧
    (⟨6, false, false⟩ : PscResult) = pscOf clocked.cfg (if ppreDiv clocked.cfg (clocked.img.cfgr.extractLsb' 8 3) = 1 then
      clocked.freqs.apb1.toNat else 2 * clocked.freqs.apb1.toNat) 10000 999 := by
  refine ⟨legal, ?_, ?_, ?_, ?_, ?_⟩ <;> first | decide | rfl

theorem witness_ConfiguringTwiceIsOnce :
    (∃ t, exec (.tmcfg 0x01#8 true false true 0#2 0#2) (withOps 10000 999 0 clocked) = .next t ∧
      t.tim.t0.psc = 6#16) ∧
    (∃ t, exec (.pwcfg 0x01#8 true false false 0#2) (withOps 50 0 0 timed) = .next t ∧ t.pwm.t0.c1.ccrPre = 500#16) :=
  ⟨⟨_, rfl, by decide⟩, ⟨_, rfl, by decide⟩⟩

theorem witness_TimerStartStopReset :
    timed.cfg.wf ∧ timOf timed.cfg 0#2 = some .t0 ∧ timOf timed.cfg 2#2 = some .t2 ∧ (timed.tim.get .t0).cfgd = true ∧
    firstFailure (checks (.tmen 3#2) timed) = some .timId ∧ firstFailure (checks (.tmdis 3#2) timed) = some .timId ∧
    firstFailure (checks (.tmrst 3#2) timed) = some .timId := by decide

theorem witness_UpdateFlagCommands :
    timed.cfg.wf ∧ timOf timed.cfg 0#2 = some .t0 ∧ timOf timed.cfg 2#2 = some .t2 ∧ firstFailure (checks (.tmirq 3#2) timed) = some .timId ∧
    firstFailure (checks (.tmclr 3#2) timed) = some .timId ∧ firstFailure (checks (.tmack 3#2) timed) = some .timId := by
  decide

theorem witness_UpdateEventStep : nextTurn (pulsed.setTurns [.uev .t0]) = .uev .t0 := by decide

/-- A request up that a command drops, one that an update event raises, and one that reaches the core. -/
theorem witness_IrqLineLevel :
    (∃ u, step (commanding 0x27000000#32 (updateEvent .t0 timed)) = .next u ∧
      timIrq (commanding 0x27000000#32 (updateEvent .t0 timed)) .t0 = true ∧ timIrq u .t0 = false) ∧
    (nextTurn (timed.setTurns [.uev .t0]) = .uev .t0 ∧ (timed.tim.get .t0).uie = true ∧
      ∃ u, step (timed.setTurns [.uev .t0]) = .next u) ∧ coreIrq (updateEvent .t0 timed) .t0 = some 28 :=
  ⟨⟨_, rfl, by decide, by decide⟩, ⟨by decide, by decide, ⟨_, rfl⟩⟩, by decide⟩

/-- Below, at and above both bounds, and the two ends of the operand. -/
theorem witness_DutyClampedToBounds :
    (Config.standard.dutyFloor ≤ 100) ∧ ((-1 : Int) < Config.standard.dutyFloor) ∧ (100 : Int) < 101 ∧
    ((Config.standard.dutyFloor : Int) ≤ 0 ∧ (0 : Int) ≤ 100) ∧ (100 : Int) ≤ 100 ∧
    (0x7FFFFFFF#32).toNat < 2 ^ 31 ∧ ¬ (0x80000000#32).toNat < 2 ^ 31 := by decide

theorem witness_CompareNearestClamped : Config.standard.wf ∧ (100 ≤ 100 ∧ 65535 ≤ 65535) ∧ (0 ≤ 100 ∧ 0 ≤ 65535) := by decide

theorem witness_PwccrCompareValue :
    State.reset.cfg.wf ∧ 100 = dutyClamp State.reset.cfg (dutyOperand (withOps 0x7FFFFFFF 65536 0 State.reset).ops.a0) ∧
    65535 = min (withOps 0x7FFFFFFF 65536 0 State.reset).ops.a1.toNat 65535 ∧
    (7#32).toNat = (if dutyClamped State.reset.cfg (dutyOperand 0x7FFFFFFF#32) then 1 else 0) +
      (if ccrClamped State.reset.cfg 100 65535 then 2 else 0) + (if 65535 < 65536 then 4 else 0) := by decide

theorem witness_PwcfgConfiguresChannels :
    timed.cfg.wf ∧ Passes (.pwcfg 0x0F#8 true true true 0#2) (withOps 50 0 0 timed) ∧
    Passes (.pwcfg 0x01#8 false false false 0#2) (withOps 50 0 0 timed) ∧ timOf State.reset.cfg 0#2 = some .t0 ∧
    50 = dutyClamp timed.cfg (dutyOperand 50#32) ∧ 500 = ccrOf timed.cfg 50 (timed.tim.get .t0).arrPre.toNat ∧
    (0x01#8).getLsbD (channelNo .c1 - 1) = true ∧ (0x01#8).getLsbD (channelNo .c2 - 1) = false := by
  refine ⟨legal, ?_, ?_, ?_, ?_, ?_, ?_, ?_⟩ <;> first | decide | rfl

theorem witness_PwdutyChangesDutyOnly :
    pulsed.cfg.wf ∧ Passes (.pwduty 0x01#8 0#2) (withOps 150 0 0 pulsed) ∧ timOf State.reset.cfg 0#2 = some .t0 ∧
    100 = dutyClamp pulsed.cfg (dutyOperand 150#32) ∧ 1000 = ccrOf pulsed.cfg 100 (pulsed.tim.get .t0).arrPre.toNat ∧
    (0x01#8).getLsbD (channelNo .c1 - 1) = true ∧ (0x01#8).getLsbD (channelNo .c4 - 1) = false := by
  refine ⟨legal, ?_, ?_, ?_, ?_, ?_, ?_⟩ <;> first | decide | rfl

theorem witness_LastDutyTakesEffect :
    pulsed.cfg.wf ∧ Passes (.pwduty 0x01#8 0#2) pulsed ∧ timOf State.reset.cfg 0#2 = some .t0 ∧
    (0x01#8).getLsbD (channelNo .c1 - 1) = true ∧ ((pulsed.pwm.get .t0).get .c1).pe = true := by
  refine ⟨legal, ?_, ?_, ?_, ?_⟩ <;> first | decide | rfl

/-- Power-up, and a reset in the middle of a sequence. -/
theorem witness_ResetValues :
    State.reset = State.reset ∧ nextTurn ((inPhase .pllWait pulsed).setTurns [.rst]) = .rst ∧
    ∃ t, step ((inPhase .pllWait pulsed).setTurns [.rst]) = .next t := ⟨rfl, by decide, _, rfl⟩

theorem witness_ResetFromAnyState : nextTurn ((inPhase .pllWait pulsed).setTurns [.rst]) = .rst := by decide

/-- A step from program P1's end state, and one that starts the sequence. -/
theorem witness_StepKeepsInvariant :
    (EngineInv clocked ∧ ∃ t, step clocked = .next t) ∧
    (EngineInv (commanding 0x04000000#32 requested) ∧
      ∃ t, step (commanding 0x04000000#32 requested) = .next t ∧ t.seq = .flash) :=
  ⟨⟨inv_clocked, ⟨_, rfl⟩⟩, ⟨inv_requested (.inl rfl), ⟨_, rfl, by decide⟩⟩⟩

/-- Program P1 in phase SWITCH. -/
def switching : State := inPhase .switch (requested.setImg ⟨0x12, 0x01010000, 0x001D0400⟩)

theorem witness_FlashWrittenBeforeSwitch :
    EngineInv switching ∧ switching.img.cfgr &&& 0x00000003#32 = 0#32 ∧
    ∃ t, step switching = .next t ∧ t.img.cfgr &&& 0x00000003#32 ≠ 0#32 :=
  ⟨inv_of_clock (by decide) ⟨by decide, by decide, by decide, by decide, by decide⟩
    ⟨fun _ => rfl, fun _ => (by decide), (by decide : switching.img = ⟨switching.flreq, enablesFor switching.clkreq,
      switching.clkreq &&& cfgrBatchMask⟩), fun h => (by cases h), fun h => (by cases h), fun h => (by cases h)⟩
    rfl rfl rfl rfl rfl, by decide, ⟨_, rfl, by decide⟩⟩

/-- With nothing listed; and with a handler first. -/
theorem witness_GetTicksReturnsTick :
    1 ≤ 1 ∧ ticking.turns = [] ∧ ticking.seq = .idle ∧ ticking.host.queue = [] ∧ ticking.host.port = none ∧
    ticking.cfg.tickW = .w64 ∧ 3 ≤ 3 ∧
    (ticking.setTurns [.handler [writeAccess ticking.cfg .cmd 0x13000000#32]]).turns =
      [.handler [writeAccess ticking.cfg .cmd 0x13000000#32]] := by decide

end Sys2Proof.Tests
end

section
/-!
PROOFS. The views of the window (R20, R30, R32): the layouts of STATUS, TCTL[t], PWMCTL[t] and DUTY[t], field by field, and
that a write to a read-only register is ignored (R52).
-/

namespace Sys2Proof.Machine

open Sys2Proof.Claims

/-- R52: a write to a read-only register changes nothing. -/
theorem regWrite_of_readOnly {r : Reg} (h : accessClass r = .ro) (v : Word) (s : State) :
    regWrite (regOffset r) v s = .next s := by
  unfold regWrite
  rw [(regAt_regOffset r).1]
  cases r <;> simp only [accessClass, reduceCtorEq] at h <;> rfl

theorem getLsbD_append_low {n m i : Nat} {x : BitVec n} {y : BitVec m} (h : i < m) :
    (x ++ y).getLsbD i = y.getLsbD i := by rw [BitVec.getLsbD_append, if_pos h]

theorem getLsbD_append_high {n m i : Nat} {x : BitVec n} {y : BitVec m} (h : m ≤ i) :
    (x ++ y).getLsbD i = x.getLsbD (i - m) := by rw [BitVec.getLsbD_append, if_neg (Nat.not_lt.mpr h)]

/-! ### STATUS (R20) -/

/-- Bits 11:0: the clock and the time base's state and phase. -/
theorem statusView_low (s : State) :
    (statusView s).getLsbD 0 = busy s ∧ (statusView s).getLsbD 1 = s.clkValid ∧
    (statusView s).extractLsb' 2 2 = s.st.state.code ∧ (statusView s).getLsbD 4 = s.st.cbEn ∧
    (statusView s).extractLsb' 5 3 = 0#3 ∧ (statusView s).extractLsb' 8 4 = s.seq.code := by
  simp (disch := decide) only [statusView, getLsbD_append_low, getLsbD_append_high, BitVec.extractLsb'_append_eq_of_add_le,
    BitVec.extractLsb'_append_eq_of_le]
  simp

/-- Bits 23:12: the polled inputs, the request lines and NVIC_EN. -/
theorem statusView_lines (s : State) :
    (statusView s).getLsbD 12 = s.inputs.hseRdy ∧ (statusView s).getLsbD 13 = s.inputs.pllRdy ∧
    (statusView s).extractLsb' 14 2 = s.inputs.sws ∧ (statusView s).getLsbD 16 = timIrq s .t0 ∧
    (statusView s).getLsbD 17 = timIrq s .t1 ∧ (statusView s).getLsbD 18 = timIrq s .t2 ∧
    (statusView s).getLsbD 19 = false ∧ (statusView s).getLsbD 20 = s.nvicEn.t0 ∧
    (statusView s).getLsbD 21 = s.nvicEn.t1 ∧ (statusView s).getLsbD 22 = s.nvicEn.t2 ∧
    (statusView s).getLsbD 23 = false := by
  simp (disch := decide) only [statusView, getLsbD_append_low, getLsbD_append_high, BitVec.extractLsb'_append_eq_of_add_le,
    BitVec.extractLsb'_append_eq_of_le]
  simp

/-- Bits 31:24: the control images of the time base. -/
theorem statusView_high (s : State) :
    (statusView s).getLsbD 24 = s.st.enable ∧ (statusView s).getLsbD 25 = s.st.tickint ∧
    (statusView s).getLsbD 26 = s.st.clksrc ∧ (statusView s).extractLsb' 27 5 = 0#5 := by
  simp (disch := decide) only [statusView, getLsbD_append_low, getLsbD_append_high, BitVec.extractLsb'_append_eq_of_le]
  simp

/-! ### TCTL[t], PWMCTL[t] and DUTY[t] (R30, R32) -/

theorem tctlView_fields (b : Timer) :
    (tctlView b).getLsbD 0 = b.en ∧ (tctlView b).extractLsb' 1 2 = b.dir.code ∧ (tctlView b).getLsbD 3 = b.arpe ∧
    (tctlView b).getLsbD 4 = b.opm ∧ (tctlView b).getLsbD 5 = b.uie ∧ (tctlView b).getLsbD 6 = b.uif ∧
    (tctlView b).getLsbD 7 = b.cfgd ∧ (tctlView b).extractLsb' 8 4 = b.chsel ∧
    (tctlView b).extractLsb' 12 20 = 0#20 := by
  simp (disch := decide) only [tctlView, getLsbD_append_low, getLsbD_append_high, BitVec.extractLsb'_append_eq_of_add_le,
    BitVec.extractLsb'_append_eq_of_le]
  simp

/-- The nibble of channel c stands at bit 4·(c − 1); the upper half is 0. -/
theorem pwmctlView_nibble (b : PerChan Channel) (c : ChId) :
    (pwmctlView b).extractLsb' (4 * (channelNo c - 1)) 4 = channelNibble (b.get c) ∧
    (pwmctlView b).extractLsb' 16 16 = 0#16 := by
  cases c <;>
    simp (disch := decide) only [pwmctlView, channelNo, PerChan.get, BitVec.extractLsb'_append_eq_of_add_le,
      BitVec.extractLsb'_append_eq_of_le] <;>
    simp

theorem channelNibble_bits (ch : Channel) :
    (channelNibble ch).getLsbD 0 = ch.inv ∧ (channelNibble ch).getLsbD 1 = ch.pol ∧
    (channelNibble ch).getLsbD 2 = ch.pe ∧ (channelNibble ch).getLsbD 3 = ch.cfgd := by
  simp only [channelNibble, BitVec.getLsbD_append]
  simp

/-- The byte of channel c stands at bit 8·(c − 1), with its top bit 0. -/
theorem dutyView_byte (b : PerChan Channel) (c : ChId) :
    (dutyView b).extractLsb' (8 * (channelNo c - 1)) 8 = 0#1 ++ (b.get c).duty := by
  have top : ∀ (x : BitVec 7), (0#1 ++ x).extractLsb' 0 8 = 0#1 ++ x := fun _ => BitVec.extractLsb'_eq_self
  have split : dutyView b = (0#1 ++ b.c4.duty) ++ (0#1 ++ b.c3.duty) ++ (0#1 ++ b.c2.duty) ++ (0#1 ++ b.c1.duty) := by
    apply BitVec.eq_of_getLsbD_eq
    intro i hi
    simp only [dutyView, BitVec.getLsbD_append]
    interval_cases i <;> rfl
  rw [split]
  cases c <;>
    simp (disch := decide) only [channelNo, PerChan.get, BitVec.extractLsb'_append_eq_of_add_le,
      BitVec.extractLsb'_append_eq_of_le] <;>
    exact top _

/-- Settles O12: the fields of `statusView` part by part, the codes of SEQ and ST_STATE, and STATUS as read-only. -/
theorem statusLayout : Obligations.StatusLayout := by
  rintro s _ rfl
  obtain ⟨busyBit, clkValid, stState, cbEn, zeroLow, seq⟩ := statusView_low s
  obtain ⟨hse, pll, sws, irq0, irq1, irq2, zero19, nvic0, nvic1, nvic2, zero23⟩ := statusView_lines s
  obtain ⟨enable, tickint, clksrc, zeroHigh⟩ := statusView_high s
  have busy_eq : busy s = decide (s.seq ≠ .idle) := by cases h : s.seq <;> simp [busy, h]
  exact ⟨busyBit.trans busy_eq, clkValid, stState, rfl, cbEn, zeroLow, seq, rfl, hse, pll, sws, irq0, irq1, irq2, zero19,
    nvic0, nvic1, nvic2, zero23, enable, tickint, clksrc, zeroHigh, fun x => regWrite_of_readOnly rfl x s⟩

/-- Settles O13: the fields of TCTL[t], the nibble of PWMCTL[t] and the byte of DUTY[t], and the bank as read-only. -/
theorem bankViewLayouts : Obligations.BankViewLayouts := by
  rintro s t c _ _ _ _ _ rfl rfl rfl rfl rfl
  obtain ⟨nibble, upper⟩ := pwmctlView_nibble (s.pwm.get t) c
  obtain ⟨inv, pol, pe, cfgd⟩ := channelNibble_bits ((s.pwm.get t).get c)
  have bit (i : Nat) (hi : i < 4) : (pwmctlView (s.pwm.get t)).getLsbD (4 * (channelNo c - 1) + i) =
      (channelNibble ((s.pwm.get t).get c)).getLsbD i := by
    rw [← nibble, BitVec.getLsbD_extractLsb', decide_eq_true hi, Bool.true_and]
  refine ⟨tctlView_fields _, ⟨(bit 0 (by decide)).trans inv, (bit 1 (by decide)).trans pol,
    (bit 2 (by decide)).trans pe, (bit 3 (by decide)).trans cfgd, upper⟩, ?_, fun r x => regWrite_of_readOnly rfl x s⟩
  calc ((dutyView (s.pwm.get t)).extractLsb' (8 * (channelNo c - 1)) 8).toNat
      = (0#1 ++ ((s.pwm.get t).get c).duty).toNat := by rw [dutyView_byte]
    _ = ((s.pwm.get t).get c).duty.toNat :=
      (BitVec.toNat_append _ _).trans (by simp)

end Sys2Proof.Machine
end

section
/-!
PROOFS. A command written to CMD at SEQ = 0, by the host or by the model's own placing, is what the step executes (R17, R70);
and what reset leaves (R36, R230).
-/

namespace Sys2Proof.Machine

open Sys2Proof.Claims

/-! ### A command written to CMD (R17, R70) -/

theorem not_busy_of_idle {s : State} (h : s.seq = .idle) : busy s = false := by simp [busy, h]

/-- At SEQ = 0 a write of `w` to CMD executes `w`, once the port has answered. -/
theorem portAccess_command {s : State} (h : s.seq = .idle) (w : Word) :
    portAccess (writeAccess s.cfg .cmd w) s = execWord w (respond .done s) := by
  rw [portAccess_writeAccess, not_busy_of_idle h]
  rfl

theorem execWord_ok {w : Word} {i : Instr} (h : decode w = .ok i) (s : State) : execWord w s = exec i s := by
  simp only [execWord, h]

theorem execWord_error {w : Word} {e : DecodeError} (h : decode w = .error e) (s : State) :
    execWord w s = .next (s.setErr (decodeErrCode e)) := by
  simp only [execWord, h, refuse]

/-- The host issues a write of `w` to CMD at SEQ = 0: the step executes `w`. -/
theorem step_of_hostIssues {s : State} {w : Word} {rest : List HostAccess}
    (h : HostIssues s (writeAccess s.cfg .cmd w) rest) (hs : s.seq = .idle) :
    step s = execWord w (afterAccess s rest none .done) := by
  have hport : (beginStep s).host.port = none := h.port
  have hqueue : (beginStep s).host.queue = writeAccess s.cfg .cmd w :: rest := h.queue
  have hstep : step s = hostTurn (beginStep s) := by rw [step, h.turn]; rfl
  rw [hstep, hostTurn, hport, hqueue]
  refine (portAccess_command (s := (beginStep s).setHost { (beginStep s).host with queue := rest }) hs w).trans ?_
  rw [afterAccess, ← h.port]
  rfl

/-- Settles O5. -/
theorem stepRunsDecodedCommand : Obligations.StepRunsDecodedCommand := by
  intro s w rest h hs
  rw [step_of_hostIssues h hs]
  exact ⟨fun i hi => execWord_ok hi _, fun e he => execWord_error he _⟩

theorem decodeTableWord_eq_some {n : Nat} {i : Instr} (h : decodeTableWord 32 n = some i) :
    decode (commandWord 32 n) = .ok i := by
  unfold decodeTableWord at h
  split at h
  · rename_i hd
    rw [hd, Option.some.inj h]
  · cases h

/-- The state a command is placed in is one whose host issues it at SEQ = 0. -/
theorem hostIssues_withFetchWord (s : State) (n : Nat) :
    HostIssues (s.withFetchWord 32 n) (writeAccess s.cfg .cmd (commandWord 32 n))
      (s.host.port.toList ++ s.host.queue) := ⟨rfl, rfl, rfl⟩

/-- Settles O6: the placed command is one the host issues at SEQ = 0. -/
theorem placedCommandRunsNext : Obligations.PlacedCommandRunsNext := by
  intro s n i hi
  rw [step_of_hostIssues (hostIssues_withFetchWord s n) rfl, execWord_ok (decodeTableWord_eq_some hi)]
  rfl

/-! ### Reset (R36, R230) -/

/-- A step of a reset turn leaves `resetEvent` of what the agent finds. -/
theorem step_of_rst {s t : State} (hr : nextTurn s = .rst) (h : step s = .next t) : t = resetEvent (beginStep s) := by
  rw [step, hr] at h
  cases h
  rfl

/-- At power-up and after a reset step, every field but the parameters and the surroundings is State.reset's. -/
theorem reset_fields {s : State} (h : s = State.reset ∨ ∃ u, nextTurn u = .rst ∧ step u = .next s) :
    ∃ cfg inputs host turns cb,
      s = { State.reset with cfg := cfg, inputs := inputs, host := host, turns := turns, cb := cb } := by
  rcases h with rfl | ⟨u, hu, h⟩
  · exact ⟨_, _, _, _, _, rfl⟩
  · exact ⟨_, _, _, _, _, step_of_rst hu h⟩

theorem reset_tim_get (t : TimId) : State.reset.tim.get t = Timer.reset := by cases t <;> rfl

theorem reset_nvicEn_get (t : TimId) : State.reset.nvicEn.get t = false := by cases t <;> rfl

theorem reset_pwm_get (t : TimId) (c : ChId) : (State.reset.pwm.get t).get c = Channel.reset := by
  cases t <;> cases c <;> rfl

theorem tctlView_reset : tctlView Timer.reset = 0#32 := by decide

/-- Settles O55: the three banks and their channels are at `Timer.reset` and `Channel.reset`, which hold Table R36's values. -/
theorem resetValues : Obligations.ResetValues := by
  intro s hs
  obtain ⟨cfg, inputs, host, turns, cb, rfl⟩ := reset_fields hs
  refine ⟨rfl, rfl, rfl, rfl, rfl, rfl, rfl, rfl, rfl, rfl, rfl, rfl, rfl, rfl, rfl, rfl, rfl, rfl, rfl, fun t => ?_⟩
  simp only [readReg, readBankReg, reset_tim_get, reset_nvicEn_get, reset_pwm_get, tctlView_reset, true_and]
  exact ⟨rfl, rfl, rfl, rfl, rfl, fun _ => rfl⟩

end Sys2Proof.Machine
end

section
/-!
PROOFS. `StepEffect`: everything a step can do to the engine, with the host's port and the schedule taken out (R13, R50 to R52,
R113, R210).
-/

namespace Sys2Proof.Machine

open Sys2Proof.Claims

/-! ### An access is the register it reaches (Table R53) -/

/-- An aligned offset of the window has no register, or is its register's offset. -/
theorem regAt_map_regOffset : ∀ off : BitVec 10, off.extractLsb' 0 2 = 0#2 →
    (regAt off).map regOffset = none ∨ (regAt off).map regOffset = some off := by decide

theorem regOffset_of_regAt {off : BitVec 10} {r : Reg} (h : regAt off = some r) (ha : off.extractLsb' 0 2 = 0#2) :
    regOffset r = off := by
  have hm := regAt_map_regOffset off ha
  rw [h] at hm
  simpa using hm

theorem eq_append_of_windowOffset {cfg : Config} {addr : Word} {off : BitVec 10} (h : windowOffset cfg addr = some off) :
    addr = cfg.baseHi ++ off := by
  unfold windowOffset at h
  split at h
  · rename_i hbase
    rw [← Option.some.inj h, ← hbase]
    exact (BitVec.extractLsb'_append_extractLsb' (w := 22) (len := 10)).symm
  · cases h

/-- An accepted write that reaches register `r` is `WR r, v`. -/
theorem eq_writeAccess {cfg : Config} {a : HostAccess} {off : BitVec 10} {r : Reg} {v : Word}
    (hoff : windowOffset cfg a.addr = some off) (hr : regAt off = some r) (ha : alignedWord a off = true)
    (hk : a.kind = .write v) : a = writeAccess cfg r v := by
  obtain ⟨addr, size, kind⟩ := a
  simp only [alignedWord, Bool.and_eq_true, decide_eq_true_eq] at ha hk hoff
  obtain ⟨rfl, haligned⟩ := ha
  rw [writeAccess, regAddr, regOffset_of_regAt hr haligned, ← eq_append_of_windowOffset hoff, hk]

/-! ### The effect of a step -/

/-- `u` is `s` but for the turns listed, the host's side and the callback output. -/
def Resumes (s u : State) : Prop := ∃ l p c, u = ((s.setTurns l).setHost p).setCb c

theorem Resumes.setHost {s u : State} (h : Resumes s u) (p : HostSide) : Resumes s (u.setHost p) := by
  obtain ⟨l, _, c, rfl⟩ := h
  exact ⟨l, p, c, rfl⟩

theorem resumes_beginStep (s : State) : Resumes s (beginStep s) := ⟨_, _, _, beginStep_eq s⟩

/-- What the step from `s` to `t` does to the engine; `u` is what the agent finds. -/
inductive StepEffect (s u t : State) : Prop where
  /-- A handler is entered, or the host's access is none, a read, a bus error, a held write or an ignored one. -/
  | nothing (h : t = u)
  | inputs (i : ClkInputs) (h : t = u.setInputs i)
  /-- A write to a register; to a stallable one at SEQ = 0 only (R113). -/
  | write (r : Reg) (v : Word) (stall : s.seq ≠ .idle → stallable (accessClass r) = false) (h : t = writeReg r v u)
  | illegalWord (e : ErrCode) (h : t = u.setErr e)
  | command (i : Instr) (runs : RunsCommand s i) (h : exec i u = .next t)
  | sequencer (turn : nextTurn s = .sequencer) (h : t = seqStep u)
  | tick (turn : nextTurn s = .tick) (h : t = tickEvent u)
  | update (b : TimId) (turn : nextTurn s = .uev b) (h : t = updateEvent b u)
  | reset (turn : nextTurn s = .rst) (h : t = resetEvent u)

theorem idle_of_not_busy {s : State} (h : busy s = false) : s.seq = .idle := by simpa [busy] using h

theorem busy_of_ne_idle {s : State} (h : s.seq ≠ .idle) : busy s = true := by simpa [busy] using h

/-- A word executed at SEQ = 0 is a command or an illegal word (R70, R79). -/
theorem effect_of_execWord {s u t : State} {w : Word} (hturn : nextTurn s = .host) (hidle : s.seq = .idle)
    (hcmd : s.host.port = some (writeAccess s.cfg .cmd w) ∨
      (s.host.port = none ∧ ∃ rest, s.host.queue = writeAccess s.cfg .cmd w :: rest))
    (h : execWord w u = .next t) : StepEffect s u t := by
  unfold execWord at h
  split at h
  · rename_i i hi
    exact .command i ⟨hturn, hidle, w, hi, hcmd⟩ h
  · exact .illegalWord _ (refuse_next h)

/-- The effect of an access that the host makes: `hcmd` says where the access came from. -/
theorem effect_of_portAccess {s u t : State} {a : HostAccess} (hturn : nextTurn s = .host) (hu : Resumes s u)
    (hcmd : s.host.port = some a ∨ (s.host.port = none ∧ ∃ rest, s.host.queue = a :: rest))
    (h : portAccess a u = .next t) : ∃ u', Resumes s u' ∧ StepEffect s u' t := by
  have hseq : u.seq = s.seq := by obtain ⟨_, _, _, rfl⟩ := hu; rfl
  have hcfg : u.cfg = s.cfg := by obtain ⟨_, _, _, rfl⟩ := hu; rfl
  obtain ⟨off, hoff, ⟨-, rfl⟩ | ⟨-, -, rfl⟩ | ⟨v, haligned, hk, h⟩⟩ := portAccess_next h
  · exact ⟨_, hu.setHost _, .nothing rfl⟩
  · exact ⟨_, hu.setHost _, .nothing rfl⟩
  obtain ⟨-, -, rfl⟩ | ⟨-, rfl⟩ | ⟨hbusy, hr, hexec⟩ | ⟨r, -, -, hstall, rfl⟩ := portWrite_next h
  · exact ⟨_, hu.setHost _, .nothing rfl⟩
  · exact ⟨_, hu.setHost _, .nothing rfl⟩
  · have ha : a = writeAccess s.cfg .cmd v := eq_writeAccess (hcfg ▸ hoff) hr haligned hk
    subst ha
    exact ⟨_, hu.setHost _, effect_of_execWord hturn (hseq ▸ idle_of_not_busy hbusy) hcmd hexec⟩
  · exact ⟨_, hu.setHost _, .write r v (fun hne => hstall (busy_of_ne_idle (hseq ▸ hne))) rfl⟩

theorem effect_of_hostTurn {s t : State} (hturn : nextTurn s = .host) (h : hostTurn (beginStep s) = .next t) :
    ∃ u, Resumes s u ∧ StepEffect s u t := by
  have hs := resumes_beginStep s
  obtain ⟨a, hport, h⟩ | ⟨-, -, rfl⟩ | ⟨a, rest, hport, hqueue, h⟩ := hostTurn_next h
  · exact effect_of_portAccess hturn (hs.setHost _) (.inl hport) h
  · exact ⟨_, hs, .nothing rfl⟩
  · exact effect_of_portAccess hturn (hs.setHost _) (.inr ⟨hport, rest, hqueue⟩) h

/-- Everything a step can do to the engine, if it answers a next state. -/
theorem step_effect {s t : State} (h : step s = .next t) : ∃ u, Resumes s u ∧ StepEffect s u t := by
  have hs := resumes_beginStep s
  obtain ⟨hturn, h⟩ | ⟨l, -, rfl⟩ | ⟨hturn, rfl⟩ | ⟨hturn, rfl⟩ | ⟨b, hturn, rfl⟩ | ⟨i, -, rfl⟩ | ⟨hturn, rfl⟩ :=
    step_next h
  · exact effect_of_hostTurn hturn h
  · exact ⟨_, hs.setHost _, .nothing (enterHandler_eq l _)⟩
  · exact ⟨_, hs, .sequencer hturn rfl⟩
  · exact ⟨_, hs, .tick hturn rfl⟩
  · exact ⟨_, hs, .update b hturn rfl⟩
  · exact ⟨_, hs, .inputs i rfl⟩
  · exact ⟨_, hs, .reset hturn rfl⟩

end Sys2Proof.Machine
end

section
/-!
PROOFS. Table R37: for each write of the state the pieces it keeps, and from these the footprint of every command.
-/

namespace Sys2Proof.Machine

open Sys2Proof.Claims

variable {p : Piece} {s t u : State}

/-! ### The pieces each write of the state keeps -/

theorem same_trans (h : Same p s t) (h' : Same p t u) : Same p s u := by
  cases p
  case pwmMode b =>
    intro c
    obtain ⟨a1, a2, a3, a4⟩ := h c
    obtain ⟨b1, b2, b3, b4⟩ := h' c
    exact ⟨b1.trans a1, b2.trans a2, b3.trans a3, b4.trans a4⟩
  case pwmDuty b =>
    intro c
    obtain ⟨a1, a2, a3⟩ := h c
    obtain ⟨b1, b2, b3⟩ := h' c
    exact ⟨b1.trans a1, b2.trans a2, b3.trans a3⟩
  all_goals simp_all [Same]

theorem same_refl (p : Piece) (s : State) : Same p s s := by cases p <;> simp [Same]

theorem same_setErr (e : ErrCode) : Same p s (s.setErr e) := by cases p <;> simp [Same]

theorem same_setSeq (x : Phase) (hp : p ≠ .seq) : Same p s (s.setSeq x) := by cases p <;> simp_all [Same]

theorem same_setCkflags (x : BitVec 6) (hp : p ≠ .ckflags) : Same p s (s.setCkflags x) := by
  cases p <;> simp_all [Same]

theorem same_setTick (x : BitVec 64) (hp : p ≠ .tick) : Same p s (s.setTick x) := by cases p <;> simp_all [Same]

theorem same_addClamp (bits : BitVec 6) (hp : p ≠ .clamp) : Same p s (addClamp bits s) := by
  cases p <;> simp_all [Same, addClamp_eq]

/-- A write of result registers keeps those it gives their old value. -/
theorem same_setRes {x : ResultRegs} (h0 : p = .r0 → x.r0 = s.res.r0) (h1 : p = .r1 → x.r1 = s.res.r1)
    (h2 : p = .r2 → x.r2 = s.res.r2) (h3 : p = .r3 → x.r3 = s.res.r3) : Same p s (s.setRes x) := by
  cases p <;> simp_all [Same]

theorem same_setR0 (v : Word) (hp : p ≠ .r0) : Same p s (setR0 v s) :=
  same_setRes (absurd · hp) (fun _ => rfl) (fun _ => rfl) (fun _ => rfl)

theorem same_setR01 (v w : Word) (h0 : p ≠ .r0) (h1 : p ≠ .r1) : Same p s (setR01 v w s) :=
  same_setRes (absurd · h0) (absurd · h1) (fun _ => rfl) (fun _ => rfl)

/-- A write of the time base keeps the parts it gives their old value. -/
theorem same_setSt {x : SysTick} (hrun : p = .stRun → x.state = s.st.state ∧ x.enable = s.st.enable)
    (hper : p = .stPeriod →
      x.reload = s.st.reload ∧ x.load = s.st.load ∧ x.tickint = s.st.tickint ∧ x.clksrc = s.st.clksrc)
    (hcb : p = .cbEn → x.cbEn = s.st.cbEn) : Same p s (s.setSt x) := by
  cases p <;> simp_all [Same]

theorem same_setRunState (r : StState) (en : Bool) (hp : p ≠ .stRun) : Same p s (setRunState r en s) :=
  same_setSt (absurd · hp) (fun _ => ⟨rfl, rfl, rfl, rfl⟩) (fun _ => rfl)

/-- A write of bank `b` keeps the other banks, and the parts of `b` it gives their old value. -/
theorem same_updTim {b : TimId} {f : Timer → Timer} (hen : p = .timEn b → (f (s.tim.get b)).en = (s.tim.get b).en)
    (huif : p = .timUif b → (f (s.tim.get b)).uif = (s.tim.get b).uif)
    (hcnt : p = .timCnt b → (f (s.tim.get b)).cntInit = (s.tim.get b).cntInit)
    (hrest : p = .timRest b → { f (s.tim.get b) with en := false, uif := false, cntInit := 0#16 } =
      { s.tim.get b with en := false, uif := false, cntInit := 0#16 }) : Same p s (updTim b f s) := by
  cases p
  case timEn u => by_cases h : u = b <;> simp_all [Same, updTim_get]
  case timUif u => by_cases h : u = b <;> simp_all [Same, updTim_get]
  case timCnt u => by_cases h : u = b <;> simp_all [Same, updTim_get]
  case timRest u => by_cases h : u = b <;> simp_all [Same, updTim_get]
  all_goals simp [Same, updTim_eq]

theorem same_clearUif {b : TimId} (hp : p ≠ .timUif b) : Same p s (clearUif b s) :=
  same_updTim (fun _ => rfl) (absurd · hp) (fun _ => rfl) (fun _ => rfl)

/-- A write of the channels of bank `b` keeps the other banks, and the parts of `b` it gives their old value. -/
theorem same_setPwm {b : TimId} {x : PerChan Channel}
    (hmode : p = .pwmMode b → ∀ c, (x.get c).cfgd = ((s.pwm.get b).get c).cfgd ∧
      (x.get c).inv = ((s.pwm.get b).get c).inv ∧ (x.get c).pol = ((s.pwm.get b).get c).pol ∧
      (x.get c).pe = ((s.pwm.get b).get c).pe)
    (hduty : p = .pwmDuty b → ∀ c, (x.get c).duty = ((s.pwm.get b).get c).duty ∧
      (x.get c).ccrPre = ((s.pwm.get b).get c).ccrPre ∧ (x.get c).ccrAct = ((s.pwm.get b).get c).ccrAct) :
    Same p s (s.setPwm (s.pwm.set b x)) := by
  cases p
  case pwmMode u => by_cases h : u = b <;> simp_all [Same, PerTimer.get_set]
  case pwmDuty u => by_cases h : u = b <;> simp_all [Same, PerTimer.get_set]
  all_goals simp [Same]

theorem same_setNvicEn {b : TimId} (x : Bool) (hp : p ≠ .nvic b) : Same p s (s.setNvicEn (s.nvicEn.set b x)) := by
  cases p
  case nvic u =>
    have hu : u ≠ b := fun h => hp (by rw [h])
    exact PerTimer.get_set_other _ _ hu
  all_goals simp [Same]

/-! ### The commands -/

theorem mayWrite_ofBank {cfg : Config} {tid : BitVec 2} {b : TimId} (h : timOf cfg tid = some b)
    (f : TimId → List Piece) : ofBank cfg tid f = f b := by
  rw [ofBank, h]
  rfl

/-- TMCFG writes CLAMP, and of its bank the configuration and NVIC_EN: EN and UIF stay (Pseudocode R154). -/
theorem same_tmcfgAccept {b : TimId} (m : BitVec 4) (ie opm arpe : Bool) (d : Dir) (hclamp : p ≠ .clamp)
    (hcnt : p ≠ .timCnt b) (hrest : p ≠ .timRest b) (hnvic : p ≠ .nvic b) :
    Same p s (tmcfgAccept b m ie opm arpe d s) := by
  unfold tmcfgAccept
  extract_lets arr cnt r s1 s2
  have h1 : Same p s s1 :=
    same_updTim (fun _ => rfl) (fun _ => rfl) (absurd · hcnt) (absurd · hrest)
  have h2 : Same p s1 s2 := by
    cases ie
    · exact same_refl p s1
    · exact same_setNvicEn true hnvic
  exact same_trans (same_trans h1 h2) (same_addClamp _ hclamp)

/-- An accepted command keeps every piece that Table R37 does not list for it. -/
theorem same_of_acceptedWrites {i : Instr} (h : AcceptedWrites i s t) (hp : p ∉ mayWrite s.cfg i) : Same p s t := by
  cases i <;> simp only [AcceptedWrites] at h <;>
    simp only [mayWrite, List.mem_cons, List.not_mem_nil, or_false, not_or] at hp
  case ckdrv =>
    obtain ⟨r, k, rfl⟩ := h
    obtain ⟨h0, h1, h2, h3, hk⟩ := hp
    exact same_trans (same_setRes (absurd · h0) (absurd · h1) (absurd · h2) (absurd · h3)) (same_setCkflags k hk)
  case ckws => obtain ⟨v, rfl⟩ := h; exact same_setR0 v hp
  case ckcfg => obtain ⟨-, -, rfl⟩ := h; exact same_setSeq _ hp
  case stcalc =>
    obtain ⟨-, a, b, c, rfl⟩ := h
    obtain ⟨h0, h1, h2⟩ := hp
    exact same_setRes (absurd · h0) (absurd · h1) (absurd · h2) (fun _ => rfl)
  case stcfg =>
    obtain ⟨-, rfl⟩ := h
    obtain ⟨hrun, hper, htick⟩ := hp
    refine same_trans (t := s.setSt _) ?_ (same_setTick _ htick)
    exact same_setSt (absurd · hrun) (absurd · hper) (fun _ => rfl)
  case stset => subst h; exact same_setTick _ hp
  case sten => obtain ⟨-, rfl⟩ := h; exact same_setRunState _ _ hp
  case stdis =>
    obtain ⟨-, rfl⟩ | ⟨-, rfl⟩ := h
    · exact same_refl p _
    · exact same_setRunState _ _ hp
  case stcb => subst h; exact same_setSt (fun _ => ⟨rfl, rfl⟩) (fun _ => ⟨rfl, rfl, rfl, rfl⟩) (absurd · hp)
  case stget => subst h; exact same_setR01 _ _ hp.1 hp.2
  case ckaux => obtain ⟨v, w, rfl⟩ := h; exact same_setR01 v w hp.1 hp.2
  case std2t => obtain ⟨-, -, v, w, rfl⟩ := h; exact same_setR01 v w hp.1 hp.2
  case tmpsc => obtain ⟨-, v, w, rfl⟩ := h; exact same_setR01 v w hp.1 hp.2
  case pwccr => obtain ⟨v, w, rfl⟩ := h; exact same_setR01 v w hp.1 hp.2
  case tmirq => obtain ⟨b, -, rfl⟩ := h; exact same_setR0 _ hp
  case tmcfg =>
    obtain ⟨b, m, d, hb, -, -, -, -, rfl⟩ := h
    simp only [mayWrite_ofBank hb, List.mem_cons, List.not_mem_nil, or_false, not_or] at hp
    obtain ⟨hclamp, hcnt, hrest, hnvic⟩ := hp
    exact same_tmcfgAccept _ _ _ _ _ hclamp hcnt hrest hnvic
  case tmen =>
    obtain ⟨b, hb, -, rfl⟩ := h
    rw [mayWrite_ofBank hb, List.mem_singleton] at hp
    exact same_updTim (absurd · hp) (fun _ => rfl) (fun _ => rfl) (fun _ => rfl)
  case tmdis =>
    obtain ⟨b, hb, rfl⟩ := h
    simp only [mayWrite_ofBank hb, List.mem_cons, List.not_mem_nil, or_false, not_or] at hp
    exact same_updTim (absurd · hp.1) (fun _ => rfl) (absurd · hp.2) (fun _ => rfl)
  case tmclr =>
    obtain ⟨b, hb, rfl⟩ := h
    rw [mayWrite_ofBank hb, List.mem_singleton] at hp
    exact same_clearUif hp
  case tmack =>
    obtain ⟨b, hb, rfl⟩ := h
    rw [mayWrite_ofBank hb, List.mem_singleton] at hp
    exact same_clearUif hp
  case tmrst =>
    obtain ⟨b, hb, rfl⟩ := h
    simp only [mayWrite_ofBank hb, List.mem_cons, List.not_mem_nil, or_false, not_or] at hp
    obtain ⟨hen, huif, hcnt, hrest, hmode, hduty, hnvic⟩ := hp
    have htim : Same p s (updTim b (fun _ => Timer.reset) s) :=
      same_updTim (absurd · hen) (absurd · huif) (absurd · hcnt) (absurd · hrest)
    exact same_trans (same_trans htim (same_setPwm (absurd · hmode) (absurd · hduty))) (same_setNvicEn false hnvic)
  case pwcfg =>
    obtain ⟨b, m, hb, -, -, rfl⟩ := h
    simp only [mayWrite_ofBank hb, List.mem_cons, List.not_mem_nil, or_false, not_or] at hp
    obtain ⟨hclamp, hmode, hduty⟩ := hp
    exact same_trans (same_setPwm (absurd · hmode) (absurd · hduty)) (same_addClamp _ hclamp)
  case pwduty =>
    obtain ⟨b, m, hb, -, -, -, rfl⟩ := h
    simp only [mayWrite_ofBank hb, List.mem_cons, List.not_mem_nil, or_false] at hp
    obtain ⟨hclamp, hduty⟩ := hp
    refine same_trans (same_setPwm (fun _ c => ?_) (absurd · hduty)) (same_addClamp _ hclamp)
    rw [PerChan.get_tabulate]
    split <;> exact ⟨rfl, rfl, rfl, rfl⟩

/-- Settles O15: a refused command writes ERR alone, an accepted one the pieces of its row. -/
theorem commandFootprint : Obligations.CommandFootprint := by
  intro i s t p h hp
  obtain ⟨e, rfl⟩ | h := exec_next h
  · exact same_setErr e
  · exact same_of_acceptedWrites h hp

end Sys2Proof.Machine
end

section
/-!
PROOFS. What only some steps write: TICK (R28), and the clock once it is configured (R24, R102). Both follow from the step's
effect and, for a command, from its row of Table R37.
-/

namespace Sys2Proof.Machine

open Sys2Proof.Claims

/-! ### Which rows of Table R37 list a piece -/

theorem not_mem_ofBank {cfg : Config} {tid : BitVec 2} {p : Piece} {f : TimId → List Piece} (h : ∀ t, p ∉ f t) :
    p ∉ ofBank cfg tid f := by
  unfold ofBank
  cases timOf cfg tid with
  | none => exact List.not_mem_nil
  | some t => exact h t

theorem eq_ckcfg_of_seq_mem {cfg : Config} {i : Instr} (h : Piece.seq ∈ mayWrite cfg i) : i = .ckcfg := by
  cases i <;> simp [mayWrite, not_mem_ofBank] at h ⊢

theorem eq_stcfg_or_stset_of_tick_mem {cfg : Config} {i : Instr} (h : Piece.tick ∈ mayWrite cfg i) :
    i = .stcfg ∨ i = .stset := by
  cases i <;> simp [mayWrite, not_mem_ofBank] at h ⊢

/-- No row lists the operands, the request, the cached frequencies, the images or the surroundings. -/
theorem not_mem_mayWrite {p : Piece} (hp : p ∈ [.operands, .request, .freqs, .images, .surroundings]) (cfg : Config)
    (i : Instr) : p ∉ mayWrite cfg i := by
  simp only [List.mem_cons, List.not_mem_nil, or_false] at hp
  rcases hp with rfl | rfl | rfl | rfl | rfl <;> cases i <;> simp [mayWrite, not_mem_ofBank]

/-! ### The writers of TICK (R28) -/

/-- Settles O38: of the effects of a step only a tick event, a command that lists TICK, and reset write TICK. -/
theorem tickWriters : Obligations.TickWriters := by
  intro s t h hne
  obtain ⟨u, hu, effect⟩ := step_effect h
  have htick : u.tick = s.tick := by obtain ⟨_, _, _, rfl⟩ := hu; rfl
  have hst : u.st = s.st := by obtain ⟨_, _, _, rfl⟩ := hu; rfl
  rw [← htick] at hne
  cases effect with
  | nothing h => exact absurd (h ▸ rfl) hne
  | inputs i h => exact absurd (h ▸ rfl) hne
  | write r v _ h =>
    obtain ⟨-, -, -, -, -, -, -, -, same, -⟩ := writeReg_same r v u
    exact absurd (h ▸ same) hne
  | illegalWord e h => exact absurd (h ▸ rfl) hne
  | command i runs h =>
    have listed : Piece.tick ∈ mayWrite u.cfg i := by
      by_contra hp
      exact hne (commandFootprint i u t .tick h hp)
    obtain rfl | rfl := eq_stcfg_or_stset_of_tick_mem listed
    · exact .inr (.inl runs)
    · exact .inr (.inr (.inl runs))
  | sequencer _ h =>
    obtain ⟨-, -, -, -, -, -, -, -, -, same, -⟩ := seqStep_same u
    exact absurd (h ▸ same) hne
  | tick turn h =>
    by_cases hrun : u.st.state = .running
    · exact .inl ⟨turn, hst ▸ hrun⟩
    · exact absurd (by rw [h, (tickEvent_spec u).1 hrun]) hne
  | update b _ h => exact absurd (h ▸ rfl) hne
  | reset turn => exact .inr (.inr (.inr turn))

/-! ### The clock, once configured (R24, R102) -/

/-- CLK_VALID, the cached frequencies, the images and SEQ are the same in both states. -/
def ClockKept (s t : State) : Prop :=
  t.clkValid = s.clkValid ∧ t.freqs = s.freqs ∧ t.img = s.img ∧ t.seq = s.seq

theorem seqStep_of_idle {s : State} (h : s.seq = .idle) : seqStep s = s := by simp [seqStep, seqEnabled, h]

/-- With CLK_VALID = 1 no command writes the clock: CKCFG, the one that starts a sequence, is refused (R102). -/
theorem exec_keeps_clock {i : Instr} {s t : State} (hv : s.clkValid = true) (h : exec i s = .next t) :
    ClockKept s t := by
  have same (p : Piece) : p ∉ mayWrite s.cfg i → Same p s t := commandFootprint i s t p h
  obtain ⟨freqs, valid⟩ := same .freqs (not_mem_mayWrite (by simp) _ _)
  refine ⟨valid, freqs, same .images (not_mem_mayWrite (by simp) _ _), ?_⟩
  by_cases hseq : Piece.seq ∈ mayWrite s.cfg i
  · obtain rfl := eq_ckcfg_of_seq_mem hseq
    obtain ⟨e, rfl⟩ | ⟨hnot, -⟩ := exec_next h
    · rfl
    · exact absurd (hv.symm.trans hnot) (by decide)
  · exact same .seq hseq

/-- With CLK_VALID = 1 and SEQ = 0 no step but reset writes the clock. -/
theorem effect_keeps_clock {s u t : State} (hv : u.clkValid = true) (hidle : u.seq = .idle) (hr : nextTurn s ≠ .rst)
    (effect : StepEffect s u t) : ClockKept u t := by
  cases effect with
  | nothing h => subst h; exact ⟨rfl, rfl, rfl, rfl⟩
  | inputs i h => subst h; exact ⟨rfl, rfl, rfl, rfl⟩
  | write r v _ h =>
    subst h
    obtain ⟨-, -, seq, -, freqs, valid, img, -⟩ := writeReg_same r v u
    exact ⟨valid, freqs, img, seq⟩
  | illegalWord e h => subst h; exact ⟨rfl, rfl, rfl, rfl⟩
  | command i _ h => exact exec_keeps_clock hv h
  | sequencer _ h => rw [h, seqStep_of_idle hidle]; exact ⟨rfl, rfl, rfl, rfl⟩
  | tick _ h =>
    subst h
    obtain ⟨-, -, -, seq, -, -, -, -, -, freqs, valid, img, -⟩ := tickEvent_same u
    exact ⟨valid, freqs, img, seq⟩
  | update b _ h => subst h; exact ⟨rfl, rfl, rfl, rfl⟩
  | reset turn => exact absurd turn hr

/-- A configured clock is idle: the sequence runs only before CLK_VALID is set. -/
theorem ClockInv.idle {s : State} (h : ClockInv s) (hv : s.clkValid = true) : s.seq = .idle := by
  by_contra hne
  exact absurd (hv.symm.trans (h.running hne).1) (by decide)

/-- Settles O28. -/
theorem clockConfiguredOnce : Obligations.ClockConfiguredOnce := by
  intro s t inv hv hr h
  have hidle : s.seq = .idle := inv.clock.idle hv
  obtain ⟨u, ⟨_, _, _, rfl⟩, effect⟩ := step_effect h
  obtain ⟨valid, freqs, img, seq⟩ := effect_keeps_clock (by exact hv) (by exact hidle) hr effect
  exact ⟨valid.trans hv, freqs, img, seq.trans hidle⟩

end Sys2Proof.Machine
end

section
/-!
PROOFS. The parts of the invariant of the engine, each as a fact about the pieces of state it speaks of: what keeps it is
proved there, on the plain records, before any step is looked at.
-/

namespace Sys2Proof.Machine

open Sys2Proof.Claims

variable {s t : State}

/-! ### Each part depends on its own pieces of the state -/

theorem MasksInv.congr (h : MasksInv s) (clkreq : t.clkreq = s.clkreq) (flreq : t.flreq = s.flreq)
    (img : t.img = s.img) : MasksInv t := by
  obtain ⟨h1, h2, h3, h4, h5⟩ := h
  constructor <;> simp only [*]

theorem ClockInv.congr (h : ClockInv s) (cfg : t.cfg = s.cfg) (seq : t.seq = s.seq) (clkreq : t.clkreq = s.clkreq)
    (flreq : t.flreq = s.flreq) (freqs : t.freqs = s.freqs) (valid : t.clkValid = s.clkValid) (img : t.img = s.img) :
    ClockInv t := by
  have images : sequenceImages t ↔ sequenceImages s := by
    simp only [sequenceImages, seq, clkreq, flreq, valid, img]
  constructor <;> simp only [images, cfg, seq, clkreq, flreq, freqs, valid, img]
  · exact h.notYet
  · exact h.running
  · exact h.images
  · exact h.cached
  · exact h.rated
  · exact h.waitStates

theorem SysTickInv.congr (h : SysTickInv s) (cfg : t.cfg = s.cfg) (st : t.st = s.st) (tick : t.tick = s.tick) :
    SysTickInv t := by
  constructor <;> simp only [cfg, st, tick]
  · exact h.unconfigured
  · exact h.configured
  · exact h.enable
  · exact h.width

/-! ### The banks and channels, as facts about one record -/

/-- `BankInv` of a bank with registers `b`, where CLK_VALID is `valid` and its NVIC_EN is `nvic`. -/
structure TimerOk (valid nvic : Bool) (b : Timer) : Prop where
  unbuffered : b.arpe = false → b.arrAct = b.arrPre
  interrupt : b.uie = true → nvic = true
  configured : b.cfgd = true → valid = true ∧ b.freq ≠ 0#32 ∧ b.chsel ≠ 0#4
  fresh : b.cfgd = false → b = { Timer.reset with uif := b.uif } ∧ nvic = false

/-- `ChannelInv` of a channel with registers `ch`, where its bank's CFGD is `bankCfgd`. -/
structure ChannelOk (bankCfgd : Bool) (ch : Channel) : Prop where
  duty : ch.duty.toNat ≤ 100
  unbuffered : ch.pe = false → ch.ccrAct = ch.ccrPre
  configured : ch.cfgd = true → bankCfgd = true
  fresh : ch.cfgd = false → ch = Channel.reset

theorem bankInv_iff (s : State) (b : TimId) : BankInv s b ↔ TimerOk s.clkValid (s.nvicEn.get b) (s.tim.get b) :=
  ⟨fun ⟨h1, h2, h3, h4⟩ => ⟨h1, h2, h3, h4⟩, fun ⟨h1, h2, h3, h4⟩ => ⟨h1, h2, h3, h4⟩⟩

theorem channelInv_iff (s : State) (b : TimId) (c : ChId) :
    ChannelInv s b c ↔ ChannelOk (s.tim.get b).cfgd ((s.pwm.get b).get c) :=
  ⟨fun ⟨h1, h2, h3, h4⟩ => ⟨h1, h2, h3, h4⟩, fun ⟨h1, h2, h3, h4⟩ => ⟨h1, h2, h3, h4⟩⟩

theorem TimerOk.mono {v v' n : Bool} {b : Timer} (h : TimerOk v n b) (hv : v = true → v' = true) : TimerOk v' n b := by
  refine ⟨h.unbuffered, h.interrupt, fun hc => ?_, h.fresh⟩
  obtain ⟨valid, freq, chsel⟩ := h.configured hc
  exact ⟨hv valid, freq, chsel⟩

theorem TimerOk.reset (v : Bool) : TimerOk v false Timer.reset := by
  constructor <;> simp [Timer.reset]

/-- R156: TMEN acts on a configured bank only. -/
theorem TimerOk.enable {v n : Bool} {b : Timer} (h : TimerOk v n b) (hc : b.cfgd = true) :
    TimerOk v n { b with en := true } :=
  ⟨h.unbuffered, h.interrupt, h.configured, fun hf => absurd (hc.symm.trans hf) (by decide)⟩

/-- R157: of a bank never configured, TMDIS writes what is at reset already. -/
theorem TimerOk.disable {v n : Bool} {b : Timer} (h : TimerOk v n b) :
    TimerOk v n { b with en := false, cntInit := 0#16 } := by
  refine ⟨h.unbuffered, h.interrupt, h.configured, fun hf => ?_⟩
  obtain ⟨hb, hn⟩ := h.fresh hf
  exact ⟨by rw [hb]; rfl, hn⟩

/-- R160: UIF is free. -/
theorem TimerOk.setUif {v n : Bool} {b : Timer} (h : TimerOk v n b) (x : Bool) : TimerOk v n { b with uif := x } := by
  refine ⟨h.unbuffered, h.interrupt, h.configured, fun hf => ?_⟩
  obtain ⟨hb, hn⟩ := h.fresh hf
  exact ⟨by rw [hb], hn⟩

/-- R206: an update moves ARR_PRE to ARR_ACT only where they may differ. -/
theorem TimerOk.update {v n : Bool} {b : Timer} (h : TimerOk v n b) : TimerOk v n (timerUpdate b) := by
  cases hp : b.arpe with
  | false =>
    have same : timerUpdate b = { b with uif := true } := by simp [timerUpdate, hp]
    exact same ▸ h.setUif true
  | true =>
    refine ⟨fun hn => absurd (hp.symm.trans hn) (by decide), h.interrupt, h.configured, fun hf => ?_⟩
    have : b.arpe = false := by rw [(h.fresh hf).1]; rfl
    exact absurd (hp.symm.trans this) (by decide)

/-- R154: an accepted TMCFG, whose clock is configured and whose operand and channel selection are not 0. -/
theorem TimerOk.configure {v n : Bool} {b : Timer} {m : BitVec 4} {ie opm arpe : Bool} {d : Dir} {freq : Word}
    {psc arr cnt : Half} (hv : v = true) (hfreq : freq ≠ 0#32) (hm : m ≠ 0#4) (hn : ie = true → n = true) :
    TimerOk v n (configuredTimer m ie opm arpe d freq psc arr cnt b) := by
  refine ⟨fun hp => ?_, hn, fun _ => ⟨hv, hfreq, hm⟩, fun hf => nomatch hf⟩
  have hp' : arpe = false := hp
  simp [configuredTimer, hp']

theorem ChannelOk.reset (k : Bool) : ChannelOk k Channel.reset := by
  constructor <;> simp [Channel.reset]

theorem ChannelOk.mono {k k' : Bool} {ch : Channel} (h : ChannelOk k ch) (hk : k = true → k' = true) :
    ChannelOk k' ch := ⟨h.duty, h.unbuffered, fun hc => hk (h.configured hc), h.fresh⟩

/-- R206: an update moves the preload value only where it may differ from the active one. -/
theorem ChannelOk.update {k : Bool} {ch : Channel} (h : ChannelOk k ch) : ChannelOk k (channelUpdate ch) := by
  cases hp : ch.pe with
  | false =>
    have same : channelUpdate ch = ch := by cases ch; simp_all [channelUpdate]
    exact same.symm ▸ h
  | true =>
    refine ⟨h.duty, fun hn => absurd (hp.symm.trans hn) (by decide), h.configured, fun hf => ?_⟩
    have : ch.pe = false := by rw [h.fresh hf]; rfl
    exact absurd (hp.symm.trans this) (by decide)

/-- R184 to R186: a duty commit leaves a configured channel, with its duty at most 100 and, with PE = 0, one compare value. -/
theorem ChannelOk.commit {ch : Channel} (v : Half) (hduty : ch.duty.toNat ≤ 100) (hc : ch.cfgd = true) :
    ChannelOk true (writeCompare v ch.pe ch) := by
  refine ⟨hduty, fun hp => ?_, fun _ => rfl, fun hf => absurd (hc.symm.trans hf) (by decide)⟩
  have hp' : ch.pe = false := hp
  simp [hp']

/-! ### The whole invariant, where only some pieces change -/

/-- The pieces of state the invariant speaks of. -/
def invariantPieces (s : State) :=
  ((s.cfg, s.seq, s.clkreq, s.flreq, s.freqs, s.clkValid, s.img), (s.st, s.tick), s.tim, s.pwm, s.nvicEn)

theorem EngineInv.of_pieces_eq (h : EngineInv s) (e : invariantPieces t = invariantPieces s) : EngineInv t := by
  simp only [invariantPieces, Prod.mk.injEq] at e
  obtain ⟨⟨cfg, seq, clkreq, flreq, freqs, valid, img⟩, ⟨st, tick⟩, tim, pwm, nvic⟩ := e
  refine ⟨cfg ▸ h.parameters, h.masks.congr clkreq flreq img, h.clock.congr cfg seq clkreq flreq freqs valid img,
    h.sysTick.congr cfg st tick, fun b => ?_, fun b c => ?_⟩
  · rw [bankInv_iff, valid, nvic, tim, ← bankInv_iff]
    exact h.bank b
  · rw [channelInv_iff, tim, pwm, ← channelInv_iff]
    exact h.channel b c

/-- Only the request and the clock change, and CLK_VALID does not fall. -/
theorem EngineInv.of_clock (h : EngineInv s) (cfg : t.cfg = s.cfg) (st : t.st = s.st) (tick : t.tick = s.tick)
    (tim : t.tim = s.tim) (pwm : t.pwm = s.pwm) (nvic : t.nvicEn = s.nvicEn) (masks : MasksInv t) (clock : ClockInv t)
    (valid : s.clkValid = true → t.clkValid = true) : EngineInv t := by
  refine ⟨cfg ▸ h.parameters, masks, clock, h.sysTick.congr cfg st tick, fun b => ?_, fun b c => ?_⟩
  · rw [bankInv_iff, nvic, tim]
    exact ((bankInv_iff s b).1 (h.bank b)).mono valid
  · rw [channelInv_iff, tim, pwm, ← channelInv_iff]
    exact h.channel b c

/-- Only the time base and TICK change. -/
theorem EngineInv.of_sysTick (h : EngineInv s) (ht : t = (s.setSt t.st).setTick t.tick) (sysTick : SysTickInv t) :
    EngineInv t := by
  have others : EngineInv ((t.setSt s.st).setTick s.tick) := h.of_pieces_eq (by rw [ht]; rfl)
  refine ⟨others.parameters, others.masks.congr rfl rfl rfl, others.clock.congr rfl rfl rfl rfl rfl rfl rfl, sysTick,
    fun b => ?_, fun b c => ?_⟩
  · have timer := (bankInv_iff _ b).1 (others.bank b)
    exact (bankInv_iff t b).2 timer
  · have channel := (channelInv_iff _ b c).1 (others.channel b c)
    exact (channelInv_iff t b c).2 channel

/-- Only bank `b` changes: its registers to `x`, its channels to `y`, its NVIC_EN to `n`. -/
theorem EngineInv.of_bank (h : EngineInv s) {b : TimId} {x : Timer} {y : PerChan Channel} {n : Bool}
    (ht : t = ((s.setTim (s.tim.set b x)).setPwm (s.pwm.set b y)).setNvicEn (s.nvicEn.set b n))
    (timer : TimerOk s.clkValid n x) (channels : ∀ c, ChannelOk x.cfgd (y.get c)) : EngineInv t := by
  subst ht
  refine ⟨h.parameters, h.masks.congr rfl rfl rfl, h.clock.congr rfl rfl rfl rfl rfl rfl rfl,
    h.sysTick.congr rfl rfl rfl, fun u => (bankInv_iff _ u).2 ?_, fun u c => (channelInv_iff _ u c).2 ?_⟩
  · by_cases hu : u = b
    · subst hu
      simpa using timer
    · simpa [PerTimer.get_set_other _ _ hu] using (bankInv_iff s u).1 (h.bank u)
  · by_cases hu : u = b
    · subst hu
      simpa using channels c
    · simpa [PerTimer.get_set_other _ _ hu] using (channelInv_iff s u c).1 (h.channel u c)

/-! ### The reset state -/

/-- The reset values of Table R36 meet the invariant in every legal configuration. -/
theorem engineInv_reset {cfg : Config} (hcfg : cfg.wf) : EngineInv { State.reset with cfg := cfg } where
  parameters := hcfg
  masks := by constructor <;> exact BitVec.zero_and
  clock := by constructor <;> simp [State.reset, sequenceImages]
  sysTick := by constructor <;> simp [State.reset]
  bank b := by
    refine (bankInv_iff _ b).2 ?_
    simp only [reset_tim_get, reset_nvicEn_get]
    exact .reset _
  channel b c := by
    refine (channelInv_iff _ b c).2 ?_
    simp only [reset_pwm_get]
    exact .reset _

/-- Settles O57: the parameters are those of `Config.standard`, which is legal. -/
theorem resetMeetsInvariant : Obligations.ResetMeetsInvariant := by
  refine ⟨engineInv_reset (cfg := Config.standard) (by decide), ?_⟩
  rintro _ _ rfl rfl
  refine ⟨rfl, rfl, rfl, rfl, rfl, rfl, rfl, rfl, rfl, rfl, rfl, rfl, rfl, rfl, rfl, rfl, rfl, rfl, rfl, rfl, rfl, rfl, rfl,
    fun t => ?_⟩
  cases t <;> rfl

end Sys2Proof.Machine
end

section
/-!
PROOFS. Every step keeps the invariant of the engine (O58): the clock sequence phase by phase, the time base, the banks and
channels, then the commands and the effects of a step.
-/

namespace Sys2Proof.Machine

open Sys2Proof.Claims

variable {s t : State}

/-! ### A valid request (R95 to R97) -/

/-- CKFLAGS = 0 says that the rated limits and the wait-states are met, and that SW is not reserved. -/
theorem valid_of_ckflagsOf {cfg : Config} {c fl : Word} (hcfg : cfg.wf) (h : ckflagsOf cfg c fl = 0#6) :
    reqSw c ≠ 3#2 ∧ (reqLat fl).toNat = wsReq cfg (fCore cfg c) ∧ fCore cfg c ≤ 72000000 ∧ fAhb cfg c ≤ 72000000 ∧
    fApb1 cfg c ≤ 36000000 ∧ fApb2 cfg c ≤ 72000000 := by
  rw [ckflagsOf_eq hcfg] at h
  split at h
  · exact absurd h (by decide)
  · rename_i hsw
    have flag (i : Nat) := congrArg (·.getLsbD i) h
    have core := flag 0
    have ahb := flag 1
    have apb1 := flag 2
    have apb2 := flag 3
    have lat := flag 5
    simp (disch := decide) only [getLsbD_append_low, getLsbD_append_high] at core ahb apb1 apb2 lat
    exact ⟨hsw, by simpa using lat, by simpa using core, by simpa using ahb, by simpa using apb1, by simpa using apb2⟩

theorem lowWord_toNat {n : Nat} (h : n ≤ 72000000) : (lowWord n).toNat = n := by
  rw [lowWord, BitVec.toNat_ofNat, Nat.mod_eq_of_lt (by omega)]

/-! ### The images stay under their masks (R25) -/

theorem or_outside {x y m : Word} (hx : x &&& ~~~m = 0#32) (hy : y &&& ~~~m = 0#32) : (x ||| y) &&& ~~~m = 0#32 := by
  rw [BitVec.and_comm, BitVec.and_or_distrib_left, BitVec.and_comm _ x, BitVec.and_comm _ y, hx, hy, BitVec.or_zero]

theorem and_outside {x m : Word} (y : Word) (hx : x &&& ~~~m = 0#32) : (x &&& y) &&& ~~~m = 0#32 := by
  rw [BitVec.and_assoc, BitVec.and_comm y, ← BitVec.and_assoc, hx, BitVec.zero_and]

theorem switchBits_outside : ∀ v : BitVec 2, v.setWidth 32 &&& ~~~clkreqMask = 0#32 := by decide

/-- Phase SWITCH completes the image: the batch of phase CFGR with SW is the request itself (R108, R111). -/
theorem batch_or_sw {c : Word} (h : c &&& ~~~clkreqMask = 0#32) :
    ((c &&& cfgrBatchMask) &&& cfgrBatchMask) ||| (reqSw c).setWidth 32 = c := by
  apply BitVec.eq_of_getLsbD_eq
  intro i hi
  have hbit := congrArg (·.getLsbD i) h
  simp only [clkreqMask, cfgrBatchMask, reqSw, BitVec.getLsbD_or, BitVec.getLsbD_and, BitVec.getLsbD_not,
    BitVec.getLsbD_setWidth, BitVec.getLsbD_extractLsb'] at hbit ⊢
  interval_cases i <;> simp_all

/-- A sequencer step keeps the masks of the request and the images. -/
theorem seqPhase_keeps_masks (h : MasksInv s) : MasksInv (seqPhase s) := by
  obtain ⟨clkreq, flreq, flash, rcccr, cfgr⟩ := h
  cases hseq : s.seq <;> simp only [seqPhase, hseq]
  case flash => exact ⟨clkreq, flreq, flreq, rcccr, cfgr⟩
  case hseOn => exact ⟨clkreq, flreq, flash, or_outside rcccr (by decide), cfgr⟩
  case cfgr => exact ⟨clkreq, flreq, flash, rcccr, or_outside (and_outside _ clkreq) (and_outside _ cfgr)⟩
  case pllOn => exact ⟨clkreq, flreq, flash, or_outside rcccr (by decide), cfgr⟩
  case switch => exact ⟨clkreq, flreq, flash, rcccr, or_outside (and_outside _ cfgr) (switchBits_outside _)⟩
  all_goals exact ⟨clkreq, flreq, flash, rcccr, cfgr⟩

/-! ### The clock sequence (R104 to R115) -/

/-- A step between two phases, before phase FREQ: with the right images, nothing else of the clock is at stake. -/
theorem ClockInv.advance (h : ClockInv s) (hrun : s.seq ≠ .idle) {p : Phase} {img : ClockImages}
    (images : sequenceImages ((s.setImg img).setSeq p)) : ClockInv ((s.setImg img).setSeq p) := by
  obtain ⟨hv, hk⟩ := h.running hrun
  have notValid : s.clkValid ≠ true := by simp [hv]
  exact ⟨h.notYet, fun _ => ⟨hv, hk⟩, images, fun hc => absurd hc notValid, fun hc => absurd hc notValid,
    fun hc => absurd hc notValid⟩

/-- Phase FREQ caches the frequencies of the request, which is valid and is what the images hold (R114). -/
theorem ClockInv.complete (h : ClockInv s) (hcfg : s.cfg.wf) (hseq : s.seq = .freq) : ClockInv (seqPhase s) := by
  obtain ⟨hv, hk⟩ := h.running (by simp [hseq])
  obtain ⟨-, hlat, hcore, hahb, hapb1, hapb2⟩ := valid_of_ckflagsOf hcfg hk
  have img : s.img = ⟨s.flreq, enablesFor s.clkreq, s.clkreq⟩ := by
    have images := h.images
    simpa only [sequenceImages, hseq] using images
  simp only [seqPhase, hseq]
  constructor <;> simp only [State.setSeq_seq, State.setSeq_clkValid, State.setSeq_freqs, State.setSeq_cfg,
    State.setSeq_img, State.setClkValid_clkValid, State.setClkValid_freqs, State.setClkValid_cfg, State.setClkValid_img,
    State.setFreqs_freqs, State.setFreqs_cfg, State.setFreqs_img, sequenceImages, img]
  · exact fun h => nomatch h
  · exact fun h => absurd rfl h
  · exact fun h => nomatch h
  · exact fun _ => ⟨lowWord_toNat hcore, lowWord_toNat hahb, lowWord_toNat (by omega), lowWord_toNat hapb2⟩
  · rw [lowWord_toNat hcore, lowWord_toNat hahb, lowWord_toNat (by omega), lowWord_toNat hapb2]
    exact fun _ => ⟨hcore, hahb, hapb1, hapb2⟩
  · rw [lowWord_toNat hcore]
    exact fun _ => hlat

/-- The phase taken from any phase of the sequence. -/
theorem seqPhase_keeps_clock (h : ClockInv s) (hcfg : s.cfg.wf) (masks : MasksInv s) : ClockInv (seqPhase s) := by
  have images := h.images
  cases hseq : s.seq <;> simp only [sequenceImages, hseq] at images
  case idle => simpa only [seqPhase, hseq] using h
  case freq => exact h.complete hcfg hseq
  all_goals
    have hrun : s.seq ≠ .idle := by simp [hseq]
    simp only [seqPhase, hseq]
  case flash => exact h.advance hrun (by rw [images]; rfl)
  case hseOn => exact h.advance hrun (by rw [images]; simp [sequenceImages])
  case hseWait => exact h.advance (img := s.img) hrun images
  case cfgr =>
    rw [images]
    split
    · rename_i hsw
      exact h.advance hrun (by simp [sequenceImages, hsw])
    · rename_i hsw
      exact h.advance hrun (by simp [sequenceImages, enablesFor, hsw])
  case pllOn => exact h.advance hrun ⟨images.1, by simp [images.2]⟩
  case pllWait => exact h.advance (img := s.img) hrun (by simp [sequenceImages, enablesFor, images])
  case switch => exact h.advance hrun (by simp [sequenceImages, images, batch_or_sw masks.clkreq])
  case swWait => exact h.advance (img := s.img) hrun images

/-- A sequencer turn: its phase, or nothing. -/
theorem EngineInv.seqStep (h : EngineInv s) : EngineInv (seqStep s) := by
  obtain ⟨cfg, -, -, -, -, -, -, -, st, tick, tim, pwm, nvic, -⟩ := seqStep_same s
  obtain ⟨-, same⟩ | ⟨-, same⟩ := seqStep_cases s
  · rw [same] at cfg st tick tim pwm nvic ⊢
    refine h.of_clock cfg st tick tim pwm nvic (seqPhase_keeps_masks h.masks)
      (seqPhase_keeps_clock h.clock h.parameters h.masks) fun hv => ?_
    cases hseq : s.seq <;> simp [seqPhase, hseq, hv]
  · exact same.symm ▸ h

/-- R101: an accepted CKCFG starts the sequence from IDLE, with a valid request and the images at 0. -/
theorem EngineInv.startSequence (h : EngineInv s) (hidle : s.seq = .idle) (hv : s.clkValid = false)
    (hk : ckflagsOf s.cfg s.clkreq s.flreq = 0#6) : EngineInv (s.setSeq .flash) := by
  have img : s.img = ⟨0#32, 0#32, 0#32⟩ := by
    have images := h.clock.images
    simp only [sequenceImages, hidle] at images
    exact images hv
  have notValid : s.clkValid ≠ true := by simp [hv]
  exact h.of_clock rfl rfl rfl rfl rfl rfl (h.masks.congr rfl rfl rfl) ⟨h.clock.notYet, fun _ => ⟨hv, hk⟩, img,
    fun hc => absurd hc notValid, fun hc => absurd hc notValid, fun hc => absurd hc notValid⟩ id

/-! ### The time base (R121 to R128, R204) -/

/-- R28: what is written to TICK has TICK_W bits. -/
theorem tickWrap_lt {cfg : Config} (h : cfg.tickW = .w32) (v : BitVec 64) : (tickWrap cfg v).toNat < 2 ^ 32 := by
  rw [tickWrap_w32 h]
  exact Nat.mod_lt _ (by decide)

theorem EngineInv.writeTick (h : EngineInv s) (v : BitVec 64) : EngineInv (writeTick v s) := by
  obtain ⟨unconfigured, configured, enable, -⟩ := h.sysTick
  exact h.of_sysTick rfl ⟨unconfigured, configured, enable, fun hw => tickWrap_lt hw v⟩

/-- R124: STCFG programs a period that fits. -/
theorem EngineInv.configureTick (h : EngineInv s) {p : Nat} (hp : periodFits s.cfg p = true) :
    EngineInv ((s.setSt { s.st with
      state := .running
      reload := BitVec.ofNat 24 p
      load := BitVec.ofNat 24 (p - s.cfg.stLoadBias)
      enable := true
      tickint := true
      clksrc := true }).setTick 0#64) := by
  have hbound := ((periodFits_iff h.parameters p).1 hp).2
  have toNat {n : Nat} (hn : n ≤ 16777215) : (BitVec.ofNat 24 n).toNat = n := by
    rw [BitVec.toNat_ofNat, Nat.mod_eq_of_lt (by omega)]
  refine h.of_sysTick rfl ⟨fun hs => (nomatch hs), fun _ => ?_, by simp, fun _ => by simp⟩
  simp only [State.setTick_st, State.setTick_cfg, State.setSt_st, State.setSt_cfg]
  rw [toNat hbound, toNat (by omega)]
  exact ⟨hp, rfl, trivial, trivial⟩

/-- R126, R127: a configured time base runs or stops, and `st_enable` follows. -/
theorem EngineInv.setRunState (h : EngineInv s) {r : StState} {en : Bool} (hs : s.st.state ≠ .unconfigured)
    (hr : r ≠ .unconfigured) (hen : en = true ↔ r = .running) : EngineInv (setRunState r en s) :=
  h.of_sysTick rfl
    ⟨fun he => absurd he hr, fun _ => h.sysTick.configured hs, hen, h.sysTick.width⟩

theorem EngineInv.setCallback (h : EngineInv s) (en : Bool) : EngineInv (s.setSt { s.st with cbEn := en }) := by
  obtain ⟨unconfigured, configured, enable, width⟩ := h.sysTick
  exact h.of_sysTick rfl ⟨unconfigured, configured, enable, width⟩

theorem EngineInv.tickEvent (h : EngineInv s) : EngineInv (tickEvent s) := by
  obtain ⟨other, silent, strobed⟩ := tickEvent_spec s
  by_cases hrun : s.st.state = .running
  · cases hcb : s.st.cbEn with
    | false => rw [silent hrun hcb]; exact h.writeTick _
    | true => rw [strobed hrun hcb]; exact (h.writeTick (s.tick + 1#64)).of_pieces_eq rfl
  · rw [other hrun]
    exact h

/-! ### The banks and channels (R154 to R161, R184 to R187, R206) -/

theorem EngineInv.timerOk (h : EngineInv s) (b : TimId) : TimerOk s.clkValid (s.nvicEn.get b) (s.tim.get b) :=
  (bankInv_iff s b).1 (h.bank b)

theorem EngineInv.channelOk (h : EngineInv s) (b : TimId) (c : ChId) :
    ChannelOk (s.tim.get b).cfgd ((s.pwm.get b).get c) := (channelInv_iff s b c).1 (h.channel b c)

/-- A write of bank `b`'s registers that keeps CFGD. -/
theorem EngineInv.updTim (h : EngineInv s) {b : TimId} {f : Timer → Timer}
    (timer : TimerOk s.clkValid (s.nvicEn.get b) (f (s.tim.get b)))
    (cfgd : (s.tim.get b).cfgd = true → (f (s.tim.get b)).cfgd = true) : EngineInv (updTim b f s) := by
  refine h.of_bank (b := b) (y := s.pwm.get b) ?_ timer (fun c => (h.channelOk b c).mono cfgd)
  rw [PerTimer.set_get_self, PerTimer.set_get_self]
  rfl

/-- A write of bank `b`'s channels that leaves each selected one well-formed. -/
theorem EngineInv.updChannels (h : EngineInv s) {b : TimId} {m : BitVec 4} {f : Channel → Channel}
    (channels : ∀ c, selects m c = true → ChannelOk (s.tim.get b).cfgd (f ((s.pwm.get b).get c))) :
    EngineInv (updChannels b m f s) := by
  refine h.of_bank (b := b) (x := s.tim.get b)
    (y := PerChan.tabulate fun c => if selects m c then f ((s.pwm.get b).get c) else (s.pwm.get b).get c) ?_
    (h.timerOk b) (fun c => ?_)
  · rw [PerTimer.set_get_self, PerTimer.set_get_self]
    rfl
  · rw [PerChan.get_tabulate]
    split
    · exact channels c ‹_›
    · exact h.channelOk b c

theorem EngineInv.addClamp (h : EngineInv s) (bits : BitVec 6) : EngineInv (addClamp bits s) := h.of_pieces_eq rfl

theorem EngineInv.clearUif (h : EngineInv s) (b : TimId) : EngineInv (clearUif b s) :=
  h.updTim ((h.timerOk b).setUif false) id

/-- R206. -/
theorem EngineInv.updateEvent (h : EngineInv s) (b : TimId) : EngineInv (updateEvent b s) := by
  have timed : EngineInv (Machine.updTim b timerUpdate s) := h.updTim (h.timerOk b).update id
  exact timed.updChannels (fun c _ => (timed.channelOk b c).update)

/-- R80: a recognised CHSEL selects a channel. -/
theorem chmask_ne_zero {cfg : Config} {sel : BitVec 8} {m : BitVec 4} (hcfg : cfg.wf) (h : chmask cfg sel = some m) :
    m ≠ 0#4 := by
  rw [chmask_eq hcfg] at h
  revert m sel
  decide

/-- R154: an accepted TMCFG. -/
theorem EngineInv.tmcfgAccept (h : EngineInv s) {b : TimId} {m : BitVec 4} {d : Dir} (ie opm arpe : Bool) (hm : m ≠ 0#4)
    (hv : s.clkValid = true) (hfreq : s.ops.a0 ≠ 0#32) : EngineInv (tmcfgAccept b m ie opm arpe d s) := by
  unfold Machine.tmcfgAccept
  extract_lets arr cnt r s1 s2
  refine EngineInv.addClamp (s := s2) ?_ _
  have timer : TimerOk s.clkValid (ie || s.nvicEn.get b)
      (configuredTimer m ie opm arpe d s.ops.a0 (toHalf r.value) (toHalf arr) (toHalf cnt) (s.tim.get b)) :=
    .configure hv hfreq hm (fun hie => by simp [hie])
  refine h.of_bank (b := b) (y := s.pwm.get b) ?_ timer (fun c => (h.channelOk b c).mono fun _ => rfl)
  rw [PerTimer.set_get_self]
  cases ie
  · simp only [Bool.false_or, PerTimer.set_get_self]
    rfl
  · rfl

/-- R158. -/
theorem EngineInv.resetBank (h : EngineInv s) (b : TimId) :
    EngineInv (((Machine.updTim b (fun _ => Timer.reset) s).setPwm
      (s.pwm.set b (PerChan.tabulate fun _ => Channel.reset))).setNvicEn (s.nvicEn.set b false)) :=
  h.of_bank rfl (.reset _) (fun c => by rw [PerChan.get_tabulate]; exact .reset _)

/-- R181, R188: the clamped duty is a percentage. -/
theorem dutyOf_le (hcfg : s.cfg.wf) : dutyOf s ≤ 100 := by
  have hfloor := Config.wf_dutyFloor hcfg
  unfold dutyOf dutyClamp
  split
  · exact hfloor
  · split <;> omega

theorem duty_toNat_le (hcfg : s.cfg.wf) : (BitVec.ofNat 7 (dutyOf s)).toNat ≤ 100 := by
  have hd := dutyOf_le hcfg
  rw [BitVec.toNat_ofNat]
  omega

/-! ### The commands -/

/-- A command executed at SEQ = 0 keeps the invariant. -/
theorem exec_keeps_inv {i : Instr} (h : EngineInv s) (hidle : s.seq = .idle) (he : exec i s = .next t) : EngineInv t := by
  obtain ⟨e, rfl⟩ | h' := exec_next he
  · exact h.of_pieces_eq rfl
  cases i <;> simp only [AcceptedWrites] at h'
  case ckdrv => obtain ⟨r, k, rfl⟩ := h'; exact h.of_pieces_eq rfl
  case ckws => obtain ⟨v, rfl⟩ := h'; exact h.of_pieces_eq rfl
  case ckaux => obtain ⟨v, w, rfl⟩ := h'; exact h.of_pieces_eq rfl
  case ckcfg => obtain ⟨hv, hk, rfl⟩ := h'; exact h.startSequence hidle hv hk
  case stcalc => obtain ⟨-, a, b, c, rfl⟩ := h'; exact h.of_pieces_eq rfl
  case stcfg => obtain ⟨hp, rfl⟩ := h'; exact h.configureTick hp
  case stget => subst h'; exact h.of_pieces_eq rfl
  case stset => subst h'; exact h.writeTick _
  case sten => obtain ⟨hs, rfl⟩ := h'; exact h.setRunState hs (by decide) (by decide)
  case stdis =>
    obtain ⟨-, rfl⟩ | ⟨hs, rfl⟩ := h'
    · exact h
    · exact h.setRunState (by simp [hs]) (by decide) (by decide)
  case stcb en => subst h'; exact h.setCallback en
  case std2t => obtain ⟨-, -, v, w, rfl⟩ := h'; exact h.of_pieces_eq rfl
  case tmpsc => obtain ⟨-, v, w, rfl⟩ := h'; exact h.of_pieces_eq rfl
  case tmcfg sel ie opm arpe dir tid =>
    obtain ⟨b, m, d, -, hm, -, hv, hfreq, rfl⟩ := h'
    exact h.tmcfgAccept ie opm arpe (chmask_ne_zero h.parameters hm) hv hfreq
  case tmen => obtain ⟨b, -, hc, rfl⟩ := h'; exact h.updTim ((h.timerOk b).enable hc) id
  case tmdis => obtain ⟨b, -, rfl⟩ := h'; exact h.updTim (h.timerOk b).disable id
  case tmrst => obtain ⟨b, -, rfl⟩ := h'; exact h.resetBank b
  case tmirq => obtain ⟨b, -, rfl⟩ := h'; exact h.of_pieces_eq rfl
  case tmclr => obtain ⟨b, -, rfl⟩ := h'; exact h.clearUif b
  case tmack => obtain ⟨b, -, rfl⟩ := h'; exact h.clearUif b
  case pwccr => obtain ⟨v, w, rfl⟩ := h'; exact h.of_pieces_eq rfl
  case pwcfg sel pe pol inv tid =>
    obtain ⟨b, m, -, -, hc, rfl⟩ := h'
    refine (h.updChannels fun c _ => ?_).addClamp _
    rw [hc]
    exact .commit (ch := ⟨true, inv, pol, pe, _, _, _⟩) _ (duty_toNat_le h.parameters) rfl
  case pwduty sel tid =>
    obtain ⟨b, m, -, -, hc, hsel, rfl⟩ := h'
    refine (h.updChannels fun c hm => ?_).addClamp _
    rw [hc]
    exact .commit (ch := { (s.pwm.get b).get c with duty := _ }) _ (duty_toNat_le h.parameters)
      ((selectedConfigured_iff s b m).1 hsel c hm)

/-! ### The step -/

/-- While no sequence runs the request is free, under its masks (R21, R22). -/
theorem EngineInv.setRequest (h : EngineInv s) (hidle : s.seq = .idle) {c fl : Word} (hc : c &&& ~~~clkreqMask = 0#32)
    (hfl : fl &&& ~~~flreqMask = 0#32) : EngineInv ((s.setClkreq c).setFlreq fl) := by
  obtain ⟨-, -, flash, rcccr, cfgr⟩ := h.masks
  obtain ⟨notYet, -, images, cached, rated, waitStates⟩ := h.clock
  simp only [sequenceImages, hidle] at images
  refine h.of_clock rfl rfl rfl rfl rfl rfl ⟨hc, hfl, flash, rcccr, cfgr⟩
    ⟨notYet, fun hne => absurd hidle hne, ?_, cached, rated, waitStates⟩ id
  simp only [sequenceImages, State.setFlreq_seq, State.setClkreq_seq, hidle]
  exact images

theorem masked_outside (v m : Word) : (v &&& m) &&& ~~~m = 0#32 := by
  rw [BitVec.and_assoc, BitVec.and_not_self]
  exact BitVec.and_zero

/-- A write to the window keeps the invariant: CLKREQ and FLREQ stall while a sequence runs (R113), and of the other
registers the invariant says nothing. -/
theorem writeReg_keeps_inv (h : EngineInv s) {r : Reg} (v : Word)
    (stall : s.seq ≠ .idle → stallable (accessClass r) = false) : EngineInv (writeReg r v s) := by
  have idle (hs : stallable (accessClass r) = true) : s.seq = .idle := by
    by_contra hne
    exact absurd (hs.symm.trans (stall hne)) (by decide)
  cases r
  case clkreq => exact h.setRequest (idle rfl) (masked_outside v _) h.masks.flreq
  case flreq => exact h.setRequest (idle rfl) h.masks.clkreq (masked_outside v _)
  all_goals exact h.of_pieces_eq rfl

/-- Each effect of a step keeps the invariant. -/
theorem effect_keeps_inv {u : State} (h : EngineInv u) (hseq : u.seq = s.seq) (effect : StepEffect s u t) :
    EngineInv t := by
  cases effect with
  | nothing ht => exact ht ▸ h
  | inputs i ht => exact ht ▸ h.of_pieces_eq rfl
  | write r v stall ht => exact ht ▸ writeReg_keeps_inv h v (hseq ▸ stall)
  | illegalWord e ht => exact ht ▸ h.of_pieces_eq rfl
  | command i runs he =>
    obtain ⟨-, hidle, -⟩ := runs
    exact exec_keeps_inv h (hseq.trans hidle) he
  | sequencer _ ht => exact ht ▸ h.seqStep
  | tick _ ht => exact ht ▸ h.tickEvent
  | update b _ ht => exact ht ▸ h.updateEvent b
  | reset _ ht => exact ht ▸ (engineInv_reset h.parameters).of_pieces_eq rfl

/-- Settles O58: each effect a step can have keeps the invariant. -/
theorem stepKeepsInvariant : Obligations.StepKeepsInvariant := by
  intro s t h hstep
  obtain ⟨u, ⟨_, _, _, rfl⟩, effect⟩ := step_effect hstep
  exact effect_keeps_inv (s := s) (h.of_pieces_eq (by rfl)) (by rfl) effect

end Sys2Proof.Machine
end

section
/-!
PROOFS. The register window (spec/20_memory.md): Table R53 both ways (R53, R54), and what one access of the host is to the step:
a read (R51), a write of each access class (R52), a narrow or misaligned access (R56).
-/

namespace Sys2Proof.Machine

open Sys2Proof.Claims

/-! ### Offsets (R53, R54) -/

theorem extractLsb'_low_eq_zero_iff (off : BitVec 10) : off.extractLsb' 0 2 = 0#2 ↔ off.toNat % 4 = 0 := by
  rw [← BitVec.toNat_inj, BitVec.extractLsb'_toNat]
  rfl

/-- The reserved ranges of Table R53, checked at each of the 256 aligned offsets. -/
theorem regAt_eq_none_iff : ∀ off : BitVec 10, off.extractLsb' 0 2 = 0#2 →
    (regAt off = none ↔ off.toNat = 0x03C ∨ (0x06C ≤ off.toNat ∧ off.toNat ≤ 0x0FC) ∨ 0x1C0 ≤ off.toNat) := by decide

/-- The compare registers of channel c stand at 0x1C + 4·c and 0x2C + 4·c of their bank. -/
theorem regOffset_compare (t : TimId) (c : ChId) :
    (regOffset (.bank t (.ccrPre c))).toNat = (bankBase t).toNat + 0x1C + 4 * channelNo c ∧
    (regOffset (.bank t (.ccrAct c))).toNat = (bankBase t).toNat + 0x2C + 4 * channelNo c := by
  cases t <;> cases c <;> decide

/-- Settles O7: `regAt` and `regOffset` undo each other, and `regAt` is none on the reserved ranges alone. -/
theorem windowTableOneToOne : Obligations.WindowTableOneToOne := by
  refine ⟨rfl, rfl, ?banks, fun r => ?listed, ?inverse, ?reserved⟩
  case banks =>
    rintro t _ rfl
    cases t <;> exact ⟨rfl, fun c => regOffset_compare _ c⟩
  case listed =>
    obtain ⟨hr, ha⟩ := regAt_regOffset r
    exact ⟨hr, (extractLsb'_low_eq_zero_iff _).mp ha⟩
  case inverse => exact fun off r ha hr => regOffset_of_regAt hr ((extractLsb'_low_eq_zero_iff off).mpr ha)
  case reserved => exact fun off ha => regAt_eq_none_iff off ((extractLsb'_low_eq_zero_iff off).mpr ha)

/-! ### An access as a step (R50) -/

/-- Where the host issues `a`, the step is that access, in `s` with the turn and the access used up. -/
theorem step_eq_portAccess {s : State} {a : HostAccess} {rest : List HostAccess} (h : HostIssues s a rest) :
    step s = portAccess a (afterAccess s rest none .none) := by
  have hport : (beginStep s).host.port = none := h.port
  have hqueue : (beginStep s).host.queue = a :: rest := h.queue
  have hfound : afterAccess s rest none .none = (beginStep s).setHost { (beginStep s).host with queue := rest } := by
    rw [afterAccess, ← h.port]
    rfl
  rw [step, h.turn, takeTurn, hostTurn, hport, hqueue, hfound]

theorem alignedWord_iff (addr : Word) (size : AccessSize) (kind : AccessKind) (off : BitVec 10) :
    alignedWord ⟨addr, size, kind⟩ off = true ↔ size = .word ∧ off.toNat % 4 = 0 := by
  rw [alignedWord, Bool.and_eq_true, decide_eq_true_iff, decide_eq_true_iff, extractLsb'_low_eq_zero_iff]

/-- R56: width and alignment are judged before anything else of an access inside the window. -/
theorem portAccess_busError {s : State} {off : BitVec 10} {size : AccessSize} (kind : AccessKind)
    (h : size ≠ .word ∨ off.toNat % 4 ≠ 0) :
    portAccess ⟨s.cfg.baseHi ++ off, size, kind⟩ s = .next (respond .busError s) := by
  have hal : ¬ alignedWord ⟨s.cfg.baseHi ++ off, size, kind⟩ off = true := by
    rw [alignedWord_iff]
    exact fun ⟨hw, ha⟩ => h.elim (· hw) (· ha)
  simp only [portAccess, windowOffset_append, if_neg hal]

theorem portAccess_read {s : State} {off : BitVec 10} (h : off.toNat % 4 = 0) :
    portAccess ⟨s.cfg.baseHi ++ off, .word, .read⟩ s = .next (respond (.data (regRead s off)) s) := by
  simp only [portAccess, windowOffset_append, (alignedWord_iff ..).mpr ⟨rfl, h⟩, if_true]

theorem portAccess_write {s : State} {off : BitVec 10} (v : Word) (h : off.toNat % 4 = 0) :
    portAccess ⟨s.cfg.baseHi ++ off, .word, .write v⟩ s =
      portWrite ⟨s.cfg.baseHi ++ off, .word, .write v⟩ off v s := by
  simp only [portAccess, windowOffset_append, (alignedWord_iff ..).mpr ⟨rfl, h⟩, if_true]

/-- R52: a write to an unlisted offset is ignored, in every phase. -/
theorem portWrite_unlisted {off : BitVec 10} (h : regAt off = none) (a : HostAccess) (v : Word) (s : State) :
    portWrite a off v s = .next (respond .done s) := by
  simp [portWrite, writeClass, regWrite, h, stallable]

/-- Settles O11: such an access is answered before its kind, its register or the phase is looked at. -/
theorem narrowOrMisalignedAccess : Obligations.NarrowOrMisalignedAccess := by
  intro s off size kind rest h hbad
  rw [step_eq_portAccess h]
  exact portAccess_busError (s := afterAccess s rest none .none) kind hbad

/-! ### Reads (R51) -/

theorem regRead_listed {off : BitVec 10} {r : Reg} (h : regAt off = some r) (s : State) : regRead s off = readReg s r := by
  simp only [regRead, h]

theorem regRead_unlisted {off : BitVec 10} (h : regAt off = none) (s : State) : regRead s off = 0#32 := by
  simp only [regRead, h]

/-- No register shows the port, the schedule or the callback output, so an access leaves every register as it read. -/
theorem readReg_afterAccess (s : State) (rest : List HostAccess) (port : Option HostAccess) (resp : HostResp) (r : Reg) :
    readReg (afterAccess s rest port resp) r = readReg s r := rfl

theorem regRead_afterAccess (s : State) (rest : List HostAccess) (port : Option HostAccess) (resp : HostResp)
    (off : BitVec 10) : regRead (afterAccess s rest port resp) off = regRead s off := by
  cases h : regAt off with
  | none => rw [regRead_unlisted h, regRead_unlisted h]
  | some r => rw [regRead_listed h, regRead_listed h, readReg_afterAccess]

/-- A read is answered with the register's value, and the step does no more. -/
theorem step_read {s : State} {off : BitVec 10} {rest : List HostAccess} (ha : off.toNat % 4 = 0)
    (h : HostIssues s ⟨s.cfg.baseHi ++ off, .word, .read⟩ rest) :
    step s = .next (afterAccess s rest none (.data (regRead s off))) := by
  rw [step_eq_portAccess h, ← regRead_afterAccess s rest none .none off]
  exact portAccess_read (s := afterAccess s rest none .none) ha

theorem tickLo_toNat (s : State) : (tickLo s).toNat = s.tick.toNat % 2 ^ 32 := by
  rw [tickLo, BitVec.extractLsb'_toNat, Nat.shiftRight_zero]

theorem tickHi_toNat (s : State) :
    (tickHi s).toNat = if s.cfg.tickW = .w64 then s.tick.toNat / 2 ^ 32 else 0 := by
  cases hw : s.cfg.tickW with
  | w32 => simp [tickHi, hw]
  | w64 =>
    have hlt : s.tick.toNat / 2 ^ 32 < 2 ^ 32 := by omega
    simp only [tickHi, hw, BitVec.extractLsb'_toNat, Nat.shiftRight_eq_div_pow, Nat.mod_eq_of_lt hlt, if_true]

/-- Settles O8: the value of each plain register, and the read as a step. -/
theorem readsChangeNothing : Obligations.ReadsChangeNothing := by
  refine ⟨fun s => ⟨rfl, rfl, ?narrow, rfl, tickLo_toNat s, tickHi_toNat s, fun t => ⟨?bank, fun c => ?compare⟩⟩, ?reads⟩
  case narrow => simp (disch := decide) only [List.map, readReg, BitVec.toNat_setWidth_of_le]
  case bank => simp (disch := decide) only [List.map, readReg, readBankReg, BitVec.toNat_setWidth_of_le]
  case compare => exact ⟨BitVec.toNat_setWidth_of_le (by decide), BitVec.toNat_setWidth_of_le (by decide)⟩
  case reads =>
    intro s off rest ha h
    exact ⟨step_read ha h, regRead_afterAccess .., fun r hr => regRead_listed hr s, fun hr => regRead_unlisted hr s,
      fun hr => regRead_listed hr s⟩

/-! ### Writes (R52, R113) -/

/-- The registers whose writes stall are those of the classes WO and RW. -/
theorem mem_stallRegs_iff (r : Reg) : r ∈ stallRegs ↔ stallable (accessClass r) = true := by
  cases r <;> simp [stallRegs, accessClass, stallable]

theorem writeReg_eq_writeEffect (r : Reg) (v : Word) (s : State) : writeReg r v s = writeEffect r v s := by
  cases r
  case clamp => simp only [writeReg, writeEffect, BitVec.setWidth_eq_extractLsb' (by decide : 6 ≤ 32)]
  all_goals rfl

/-- `WR r, v` to a register that stalls, in a phase of the sequencer, is held on the port. -/
theorem portAccess_stalled {r : Reg} {s : State} (v : Word) (hs : s.seq ≠ .idle) (hr : r ∈ stallRegs) :
    portAccess (writeAccess s.cfg r v) s =
      .next (s.setHost { s.host with port := some (writeAccess s.cfg r v), resp := .stalled }) := by
  rw [portAccess_writeAccess, busy_of_ne_idle hs, (mem_stallRegs_iff r).mp hr]
  rfl

/-- `WR r, v` that is not held, to a register other than CMD. -/
theorem portAccess_writeReg {r : Reg} {s : State} (v : Word) (hs : s.seq = .idle ∨ r ∉ stallRegs) (hr : r ≠ .cmd) :
    portAccess (writeAccess s.cfg r v) s = .next (writeEffect r v (respond .done s)) := by
  have hfree : ¬ (busy s && stallable (accessClass r)) = true := by
    rw [Bool.and_eq_true, ← mem_stallRegs_iff]
    rintro ⟨hbusy, hmem⟩
    exact hs.elim (fun hidle => absurd hbusy (by simp [not_busy_of_idle hidle])) (· hmem)
  rw [portAccess_writeAccess, if_neg hfree, if_neg hr, writeReg_eq_writeEffect]

/-- Settles O9: a write is stored under its register's class, executed if it is to CMD, held if it stalls, and ignored at an
unlisted offset. -/
theorem registerWriteClasses : Obligations.RegisterWriteClasses := by
  refine ⟨fun s r v rest h => ⟨fun hs hr => ?stored, fun hs hr => ?executed, fun hs hr => ?held⟩,
    fun s off v rest ha hr h => ?ignored⟩
  case stored =>
    rw [step_eq_portAccess h]
    exact portAccess_writeReg (s := afterAccess s rest none .none) v hs hr
  case executed =>
    subst hr
    exact step_of_hostIssues h hs
  case held =>
    rw [step_eq_portAccess h]
    exact portAccess_stalled (s := afterAccess s rest none .none) v hs hr
  case ignored =>
    rw [step_eq_portAccess h]
    exact (portAccess_write (s := afterAccess s rest none .none) v ha).trans (portWrite_unlisted hr _ v _)

end Sys2Proof.Machine
end

section
/-!
PROOFS. The command map (R70 to R79, Table R78): the decoder by rows of the table, the fields of each format both ways, the two
round trips of decode and encode, and what the port makes of a word that is no command (R79).
-/

namespace Sys2Proof.Machine

open Sys2Proof.Claims Sys2Proof.Laws

/-! ### The fields of each format (R71 to R76) -/

theorem encodeB_field (op : BitVec 8) (b : Bool) : (encodeB op b).getLsbD 0 = b := by
  rw [encodeB, getLsbD_append_low (by decide), BitVec.getLsbD_ofBool]
  rfl

theorem encodeT_tid (op : BitVec 8) (tid : BitVec 2) : tidField (encodeT op tid) = tid :=
  BitVec.extractLsb'_append_eq_right

theorem encodeTC_fields (op sel : BitVec 8) (ie opm arpe : Bool) (dir tid : BitVec 2) :
    chselField (encodeTC op sel ie opm arpe dir tid) = sel ∧ (encodeTC op sel ie opm arpe dir tid).getLsbD 6 = ie ∧
    (encodeTC op sel ie opm arpe dir tid).getLsbD 5 = opm ∧ (encodeTC op sel ie opm arpe dir tid).getLsbD 4 = arpe ∧
    dirField (encodeTC op sel ie opm arpe dir tid) = dir ∧ tidField (encodeTC op sel ie opm arpe dir tid) = tid := by
  simp (disch := decide) only [encodeTC, chselField, dirField, tidField, getLsbD_append_low, getLsbD_append_high,
    BitVec.extractLsb'_append_eq_of_add_le, BitVec.extractLsb'_append_eq_of_le]
  simp

theorem encodeP_fields (op sel : BitVec 8) (pe pol inv : Bool) (tid : BitVec 2) :
    chselField (encodeP op sel pe pol inv tid) = sel ∧ (encodeP op sel pe pol inv tid).getLsbD 4 = pe ∧
    (encodeP op sel pe pol inv tid).getLsbD 3 = pol ∧ (encodeP op sel pe pol inv tid).getLsbD 2 = inv ∧
    tidField (encodeP op sel pe pol inv tid) = tid := by
  simp (disch := decide) only [encodeP, chselField, tidField, getLsbD_append_low, getLsbD_append_high,
    BitVec.extractLsb'_append_eq_of_add_le, BitVec.extractLsb'_append_eq_of_le]
  simp

theorem encodeD_fields (op sel : BitVec 8) (tid : BitVec 2) :
    chselField (encodeD op sel tid) = sel ∧ tidField (encodeD op sel tid) = tid := by
  simp (disch := decide) only [encodeD, chselField, tidField, BitVec.extractLsb'_append_eq_of_add_le,
    BitVec.extractLsb'_append_eq_of_le]
  simp

/-! ### A word without reserved bits is the row of its slices

A format is its fields and its reserved bits in order, so a word whose reserved slices are 0 is put together again from
neighbouring slices. -/

/-- A slice that the mask covers is 0 in a word with none of the mask's bits. -/
theorem slice_of_clear {w m : Word} (h : w &&& m = 0#32) {k n : Nat} (hm : m.extractLsb' k n = BitVec.allOnes n) :
    w.extractLsb' k n = 0#n := by
  have hs : (w &&& m).extractLsb' k n = 0#n := by rw [h, BitVec.extractLsb'_zero]
  rwa [BitVec.extractLsb'_and, hm, BitVec.and_allOnes] at hs

theorem ofBool_getLsbD (w : Word) (k : Nat) : BitVec.ofBool (w.getLsbD k) = w.extractLsb' k 1 := by
  ext i hi
  obtain rfl : i = 0 := Nat.lt_one_iff.mp hi
  simp

section Fit

variable {w : Word} {op : BitVec 8}

theorem encodeZ_of_fits (hop : opField w = op) (h : w &&& mbzZ = 0#32) : encodeZ op = w := by
  have low : w.extractLsb' 0 24 = 0#24 := slice_of_clear h (by decide)
  rw [encodeZ, ← hop, ← low]
  exact BitVec.extractLsb'_append_extractLsb' (w := 8)

theorem encodeB_of_fits (hop : opField w = op) (h : w &&& mbzB = 0#32) : encodeB op (w.getLsbD 0) = w := by
  have mid : w.extractLsb' 1 23 = 0#23 := slice_of_clear h (by decide)
  rw [encodeB, ← hop, ← mid, opField, ofBool_getLsbD]
  simp (disch := rfl) only [BitVec.extractLsb'_append_extractLsb'_eq_extractLsb']
  exact BitVec.extractLsb'_eq_self

theorem encodeT_of_fits (hop : opField w = op) (h : w &&& mbzT = 0#32) : encodeT op (tidField w) = w := by
  have mid : w.extractLsb' 2 22 = 0#22 := slice_of_clear h (by decide)
  rw [encodeT, ← hop, ← mid, opField, tidField]
  simp (disch := rfl) only [BitVec.extractLsb'_append_extractLsb'_eq_extractLsb']
  exact BitVec.extractLsb'_eq_self

theorem encodeTC_of_fits (hop : opField w = op) (h : w &&& mbzTC = 0#32) :
    encodeTC op (chselField w) (w.getLsbD 6) (w.getLsbD 5) (w.getLsbD 4) (dirField w) (tidField w) = w := by
  have high : w.extractLsb' 16 8 = 0#8 := slice_of_clear h (by decide)
  have bit7 : w.extractLsb' 7 1 = 0#1 := slice_of_clear h (by decide)
  rw [encodeTC, ← hop, ← high, ← bit7, opField, chselField, dirField, tidField]
  simp (disch := rfl) only [ofBool_getLsbD, BitVec.extractLsb'_append_extractLsb'_eq_extractLsb']
  exact BitVec.extractLsb'_eq_self

theorem encodeP_of_fits (hop : opField w = op) (h : w &&& mbzP = 0#32) :
    encodeP op (chselField w) (w.getLsbD 4) (w.getLsbD 3) (w.getLsbD 2) (tidField w) = w := by
  have high : w.extractLsb' 16 8 = 0#8 := slice_of_clear h (by decide)
  have mid : w.extractLsb' 5 3 = 0#3 := slice_of_clear h (by decide)
  rw [encodeP, ← hop, ← high, ← mid, opField, chselField, tidField]
  simp (disch := rfl) only [ofBool_getLsbD, BitVec.extractLsb'_append_extractLsb'_eq_extractLsb']
  exact BitVec.extractLsb'_eq_self

theorem encodeD_of_fits (hop : opField w = op) (h : w &&& mbzD = 0#32) :
    encodeD op (chselField w) (tidField w) = w := by
  have high : w.extractLsb' 16 8 = 0#8 := slice_of_clear h (by decide)
  have mid : w.extractLsb' 2 6 = 0#6 := slice_of_clear h (by decide)
  rw [encodeD, ← hop, ← high, ← mid, opField, chselField, tidField]
  simp (disch := rfl) only [BitVec.extractLsb'_append_extractLsb'_eq_extractLsb']
  exact BitVec.extractLsb'_eq_self

end Fit

/-! ### The decoder, row by row (Table R78) -/

/-- The command of `i`'s row with its fields read from `w`. -/
def readAs (w : Word) : Instr → Instr
  | .stcb _ => .stcb (w.getLsbD 0)
  | .std2t _ => .std2t (w.getLsbD 0)
  | .tmcfg _ _ _ _ _ _ =>
    .tmcfg (chselField w) (w.getLsbD 6) (w.getLsbD 5) (w.getLsbD 4) (dirField w) (tidField w)
  | .tmen _ => .tmen (tidField w)
  | .tmdis _ => .tmdis (tidField w)
  | .tmrst _ => .tmrst (tidField w)
  | .tmirq _ => .tmirq (tidField w)
  | .tmclr _ => .tmclr (tidField w)
  | .tmack _ => .tmack (tidField w)
  | .pwcfg _ _ _ _ _ => .pwcfg (chselField w) (w.getLsbD 4) (w.getLsbD 3) (w.getLsbD 2) (tidField w)
  | .pwduty _ _ => .pwduty (chselField w) (tidField w)
  | i => i

/-- Everything the decoder does with a word whose OP is that of `i`'s row. -/
theorem decode_of_op {w : Word} {i : Instr} (hop : opField w = (rowOf i).op) :
    decode w = ifWellFormed w (rowOf i).mbz (readAs w i) := by
  unfold decode
  rw [hop]
  cases i <;> rfl

theorem ifWellFormed_eq_ok_iff {w m : Word} {i j : Instr} :
    ifWellFormed w m i = .ok j ↔ i.wellFormed = true ∧ w &&& m = 0#32 ∧ i = j := by
  unfold ifWellFormed ifClear
  split_ifs <;> simp_all

/-- A command has its row's OP and no reserved bit (R70, Table R78). -/
theorem encodesOwnRow (i : Instr) : EncodesOwnRow.Statement i := by
  cases i
  case stcb | std2t => exact fitsRow_b _ _
  case tmen | tmdis | tmrst | tmirq | tmclr | tmack => exact fitsRow_t _ _
  case tmcfg => exact fitsRow_tc _ _ _ _ _ _ _
  case pwcfg => exact fitsRow_p _ _ _ _ _ _
  case pwduty => exact fitsRow_d _ _ _
  all_goals exact ⟨by decide, by decide⟩

theorem readAs_encode (i : Instr) : readAs (encode i) i = i := by
  cases i
  case stcb | std2t => simp only [encode, readAs, encodeB_field]
  case tmen | tmdis | tmrst | tmirq | tmclr | tmack => simp only [encode, readAs, encodeT_tid]
  case tmcfg => simp only [encode, readAs, encodeTC_fields]
  case pwcfg => simp only [encode, readAs, encodeP_fields]
  case pwduty => simp only [encode, readAs, encodeD_fields]
  all_goals rfl

theorem encode_readAs {w : Word} {i : Instr} (hop : opField w = (rowOf i).op) (h : w &&& (rowOf i).mbz = 0#32) :
    encode (readAs w i) = w := by
  cases i
  case stcb | std2t => exact encodeB_of_fits hop h
  case tmen | tmdis | tmrst | tmirq | tmclr | tmack => exact encodeT_of_fits hop h
  case tmcfg => exact encodeTC_of_fits hop h
  case pwcfg => exact encodeP_of_fits hop h
  case pwduty => exact encodeD_of_fits hop h
  all_goals exact encodeZ_of_fits hop h

/-- Settles O1: the word has its own row's OP and no reserved bit, and its fields read back. -/
theorem decodeOfEncode : Obligations.DecodeOfEncode := by
  intro i hwf
  obtain ⟨hop, hclear⟩ := encodesOwnRow i
  rw [decode_of_op hop, readAs_encode]
  exact ifWellFormed_eq_ok_iff.mpr ⟨hwf, hclear, rfl⟩

/-- Settles O4: each word is the encoder's for its command. -/
theorem specWordsDecode : Obligations.SpecWordsDecode :=
  ⟨decodeOfEncode .ckcfg rfl, decodeOfEncode (.stcb true) rfl, decodeOfEncode (.std2t true) rfl,
    decodeOfEncode (.tmcfg 0x01#8 true false true 0#2 0#2) rfl,
    decodeOfEncode (.tmcfg 0xFF#8 false true false 2#2 2#2) rfl, decodeOfEncode (.tmack 2#2) rfl,
    decodeOfEncode (.pwcfg 0x0C#8 true true true 1#2) rfl, decodeOfEncode (.pwduty 0xFF#8 2#2) rfl⟩

/-! ### The rows of the table, and words of none (R78, R79) -/

/-- One command of each row. -/
def rowHeads : List Instr :=
  [.ckdrv, .ckws, .ckaux, .ckcfg, .stcalc, .stcfg, .stget, .stset, .sten, .stdis, .stcb false, .std2t false, .tmpsc,
    .tmcfg 0 false false false 0 0, .tmen 0, .tmdis 0, .tmrst 0, .tmirq 0, .tmclr 0, .tmack 0, .pwccr,
    .pwcfg 0 false false false 0, .pwduty 0 0]

theorem opcodeTable_eq : opcodeTable = rowHeads.map fun i => ((rowOf i).op.toNat, (rowOf i).mbz) := rfl

theorem opField_toNat (w : Word) : (opField w).toNat = w.toNat / 2 ^ 24 := by
  rw [opField, BitVec.extractLsb'_toNat, Nat.shiftRight_eq_div_pow]
  exact Nat.mod_eq_of_lt (Nat.div_lt_of_lt_mul w.isLt)

theorem dirField_toNat (w : Word) : (dirField w).toNat = (w.toNat / 4) % 4 := by
  rw [dirField, BitVec.extractLsb'_toNat, Nat.shiftRight_eq_div_pow]

/-- A word whose OP has a row has the OP and the mask of some command's row. -/
theorem exists_row_of_reservedOf {w m : Word} (h : reservedOf w = some m) :
    ∃ i, opField w = (rowOf i).op ∧ (rowOf i).mbz = m := by
  obtain ⟨before, after, htable, -⟩ := List.lookup_eq_some_iff.mp h
  have hmem : (w.toNat / 2 ^ 24, m) ∈ opcodeTable := by rw [htable]; exact List.mem_append_cons_self
  rw [opcodeTable_eq, List.mem_map] at hmem
  obtain ⟨i, -, hi⟩ := hmem
  obtain ⟨hop, hm⟩ := Prod.mk.inj hi
  exact ⟨i, BitVec.eq_of_toNat_eq ((opField_toNat w).trans hop.symm), hm⟩

/-- R79 (a): each branch of the decoder but the last has an OP that the table holds. -/
theorem decode_of_reservedOf_none {w : Word} (h : reservedOf w = none) : decode w = .error .badOp := by
  rw [reservedOf, ← opField_toNat] at h
  unfold decode
  split
  case h_24 => rfl
  all_goals
    rename_i hop
    rw [hop] at h
    exact absurd h (by decide)

/-- Settles O2: a word that decodes has a row, and is put together again from the fields read from it. -/
theorem encodeOfDecode : Obligations.EncodeOfDecode := by
  intro w i h
  cases hr : reservedOf w with
  | none => rw [decode_of_reservedOf_none hr] at h; cases h
  | some m =>
    obtain ⟨j, hop, -⟩ := exists_row_of_reservedOf hr
    rw [decode_of_op hop] at h
    obtain ⟨hwf, hclear, rfl⟩ := ifWellFormed_eq_ok_iff.mp h
    exact ⟨hwf, encode_readAs hop hclear⟩

/-- R79 (c): the one reserved field value is DIR = 3 of TMCFG. -/
theorem readAs_wellFormed_iff {w : Word} {i : Instr} (hop : opField w = (rowOf i).op) :
    (readAs w i).wellFormed = true ↔ ¬ (w.toNat / 2 ^ 24 = 0x21 ∧ (w.toNat / 4) % 4 = 3) := by
  rw [← opField_toNat, ← dirField_toNat, hop]
  cases i
  case tmcfg => simp [readAs, Instr.wellFormed, rowOf, ← BitVec.toNat_inj]
  all_goals exact iff_of_true rfl (by simp [rowOf])

theorem ifWellFormed_eq_error {w m : Word} {i : Instr} (h : w &&& m ≠ 0#32 ∨ ¬ i.wellFormed = true) :
    ifWellFormed w m i = .error .field := by
  unfold ifWellFormed ifClear
  split_ifs with hwf hclear
  · exact absurd h (by simp [hwf, hclear])
  · rfl
  · rfl

/-- Settles O3: by the row of the word's OP, or its absence. -/
theorem illegalWordsRefused : Obligations.IllegalWordsRefused := by
  refine ⟨fun w s hr => execWord_error (decode_of_reservedOf_none hr) s, ?field, ?command, by decide⟩
  case field =>
    intro w m s hr hbad
    obtain ⟨i, hop, rfl⟩ := exists_row_of_reservedOf hr
    have herr : decode w = .error .field := by
      rw [decode_of_op hop]
      exact ifWellFormed_eq_error (hbad.imp_right fun hdir hwf => (readAs_wellFormed_iff hop).mp hwf hdir)
    exact execWord_error herr s
  case command =>
    intro w m hr hclear hdir
    obtain ⟨i, hop, rfl⟩ := exists_row_of_reservedOf hr
    have hok : decode w = .ok (readAs w i) := by
      rw [decode_of_op hop]
      exact ifWellFormed_eq_ok_iff.mpr ⟨(readAs_wellFormed_iff hop).mpr hdir, hclear, rfl⟩
    exact ⟨_, hok, execWord_ok hok⟩

end Sys2Proof.Machine
end

section
/-!
PROOFS. The host procedure GET_TICKS (R84, R125, R131): what awaiting an access, a command and a read come to where the host is
the only agent with something to do, and the procedure with and without an interrupt handler before it.
-/

namespace Sys2Proof.Machine

open Sys2Proof.Claims

/-! ### An access that the next steps answer (R51, R52) -/

section Fields

variable (s : State) (rest : List HostAccess) (port : Option HostAccess) (resp : HostResp)

@[simp] theorem afterAccess_cfg : (afterAccess s rest port resp).cfg = s.cfg := rfl
@[simp] theorem afterAccess_ops : (afterAccess s rest port resp).ops = s.ops := rfl
@[simp] theorem afterAccess_err : (afterAccess s rest port resp).err = s.err := rfl
@[simp] theorem afterAccess_tick : (afterAccess s rest port resp).tick = s.tick := rfl
@[simp] theorem afterAccess_turns : (afterAccess s rest port resp).turns = s.turns.tail := rfl

end Fields

/-- No turn is listed, the sequencer is idle and the host has nothing still to make: the host's next access is the next
step. -/
structure HostIdle (s : State) : Prop where
  turns : s.turns = []
  seq : s.seq = .idle
  queue : s.host.queue = []
  port : s.host.port = none

theorem nextTurn_of_idle {s : State} (hturns : s.turns = []) (hseq : s.seq = .idle) : nextTurn s = .host := by
  simp [nextTurn, seqEnabled, hturns, hseq]

theorem HostIdle.issues {s : State} (h : HostIdle s) (a : HostAccess) : HostIssues (issue a s) a [] where
  turn := nextTurn_of_idle h.turns h.seq
  port := h.port
  queue := congrArg (· ++ [a]) h.queue

theorem HostIdle.afterAccess {s : State} (h : HostIdle s) (r : HostResp) : HostIdle (afterAccess s [] none r) where
  turns := by rw [afterAccess_turns, h.turns, List.tail_nil]
  seq := h.seq
  queue := rfl
  port := rfl

variable {s t u : State} {fuel : Nat} {r : HostResp}

/-- The last access answered by the next step ends the wait. -/
theorem await_of_answered (hfuel : 1 ≤ fuel) (hs : step s = .next t) (hhost : t.host = ⟨[], none, r⟩)
    (hr : answered r = true) : await fuel s = some (r, t) := by
  obtain ⟨n, rfl⟩ := Nat.exists_eq_add_of_le' hfuel
  simp [await, hs, hhost, hr]

/-- A step that leaves the host accesses to make goes on waiting. -/
theorem await_succ_of_queue (hs : step s = .next t) (hq : t.host.queue ≠ []) : await (fuel + 1) s = await fuel t := by
  simp [await, hs, hq]

/-- `RD reg` by a host that is the only agent is the register's value, in one step. -/
theorem hostRead_of_idle (h : HostIdle s) (hfuel : 1 ≤ fuel) (r : Reg) :
    hostRead fuel r s = some (readReg s r, afterAccess s [] none (.data (readReg s r))) := by
  obtain ⟨hr, ha⟩ := regAt_regOffset r
  have hstep : step (issue (readAccess s.cfg r) s) = .next (afterAccess s [] none (.data (readReg s r))) := by
    rw [← regRead_listed hr s]
    exact step_read ((extractLsb'_low_eq_zero_iff _).mp ha) (h.issues (readAccess s.cfg r))
  rw [hostRead, await_of_answered hfuel hstep rfl rfl]

/-- R77: the two reads of a 64-bit result. -/
theorem readR01_of_idle (h : HostIdle s) (hfuel : 1 ≤ fuel) :
    ∃ t, readR01 fuel s = some (s.res.r1 ++ s.res.r0, t) ∧ t.tick = s.tick ∧ t.err = s.err := by
  simp only [readR01, hostRead_of_idle h hfuel, hostRead_of_idle (h.afterAccess _) hfuel, Option.bind_eq_bind,
    Option.bind_some]
  exact ⟨_, rfl, by simp only [afterAccess_tick], by simp only [afterAccess_err]⟩

/-! ### The snapshot of TICK (R125) -/

/-- With TICK_W = 64 the two words of the snapshot are TICK. -/
theorem tickHi_append_tickLo (h : s.cfg.tickW = .w64) : tickHi s ++ tickLo s = s.tick := by
  rw [tickHi, h]
  exact BitVec.extractLsb'_append_extractLsb' (w := 32)

/-- A command the host issues at SEQ = 0 is executed by the step. -/
theorem step_command {i : Instr} {rest : List HostAccess} (hwf : i.wellFormed = true)
    (h : HostIssues s (writeAccess s.cfg .cmd (encode i)) rest) (hseq : s.seq = .idle) :
    step s = exec i (afterAccess s rest none .done) := by
  rw [step_of_hostIssues h hseq, execWord_ok (decodeOfEncode i hwf)]

/-- STGET as the host's last access leaves the snapshot in R1 ++ R0. -/
theorem await_stget (hfuel : 1 ≤ fuel) (h : HostIssues s (writeAccess s.cfg .cmd (encode .stget)) []) (hseq : s.seq = .idle) :
    await fuel s = some (.done, setR01 (tickLo s) (tickHi s) (afterAccess s [] none .done)) :=
  await_of_answered hfuel (step_command rfl h hseq) rfl rfl

/-- GET_TICKS, once its STGET has left the host alone with the snapshot of `u` in R1 ++ R0. -/
theorem getTicks_of_stget
    (hawait : await fuel (issue (writeAccess s.cfg .cmd (encode .stget)) s) =
      some (r, setR01 (tickLo u) (tickHi u) u))
    (hfuel : 1 ≤ fuel) (hu : HostIdle u) (hw : u.cfg.tickW = .w64) :
    ∃ t, getTicks fuel s = some (u.tick, t) ∧ t.tick = u.tick ∧ t.err = u.err := by
  have hidle : HostIdle (setR01 (tickLo u) (tickHi u) u) := ⟨hu.turns, hu.seq, hu.queue, hu.port⟩
  obtain ⟨t, ht, htick, herr⟩ := readR01_of_idle hidle hfuel
  refine ⟨t, ?_, htick, herr⟩
  rw [← tickHi_append_tickLo hw, getTicks, hostCommand, hostWrite, hawait]
  exact ht

/-! ### GET_TICKS (R84, R131) -/

theorem getTicks_of_idle (h : HostIdle s) (hfuel : 1 ≤ fuel) (hw : s.cfg.tickW = .w64) :
    ∃ t, getTicks fuel s = some (s.tick, t) ∧ t.tick = s.tick ∧ t.err = s.err :=
  getTicks_of_stget (u := afterAccess s [] none .done) (await_stget hfuel (h.issues _) h.seq) hfuel (h.afterAccess _) hw

/-- The entry of the one handler listed: its accesses come before the one the host was to make. -/
theorem step_issue_of_handler {l : List HostAccess} (hturns : s.turns = [.handler l]) (hqueue : s.host.queue = [])
    (hport : s.host.port = none) (a : HostAccess) :
    step (issue a s) = .next (afterAccess s (l ++ [a]) none .none) := by
  have hturn : nextTurn (issue a s) = .handler l := by simp [nextTurn, issue, hturns]
  rw [step, hturn, takeTurn, enterHandler_eq, beginStep_eq, afterAccess]
  simp only [issue, State.setCb_host, State.setHost_host, hqueue, hport, List.nil_append]
  rfl

/-- A handler's STSET with TICK_W = 64, one access of the host still to come. -/
theorem step_stset {rest : List HostAccess} (h : HostIssues s (writeAccess s.cfg .cmd (encode .stset)) rest)
    (hseq : s.seq = .idle) (hw : s.cfg.tickW = .w64) :
    step s = .next ((afterAccess s rest none .done).setTick (s.ops.a1 ++ s.ops.a0)) := by
  rw [step_command rfl h hseq, ← tickWrap_w64 hw (s.ops.a1 ++ s.ops.a0)]
  rfl

/-- A handler's STSET, then the host's own STGET: the snapshot is of the value set. -/
theorem await_stset_stget (hturns : s.turns = []) (hseq : s.seq = .idle) (hport : s.host.port = none)
    (hqueue : s.host.queue = [writeAccess s.cfg .cmd (encode .stset), writeAccess s.cfg .cmd (encode .stget)])
    (hw : s.cfg.tickW = .w64) (hfuel : 2 ≤ fuel) :
    ∃ u, await fuel s = some (.done, setR01 (tickLo u) (tickHi u) u) ∧ HostIdle u ∧ u.cfg.tickW = .w64 ∧
      u.tick = s.ops.a1 ++ s.ops.a0 ∧ u.err = s.err := by
  obtain ⟨n, rfl⟩ := Nat.exists_eq_add_of_le' hfuel
  have hset := step_stset ⟨nextTurn_of_idle hturns hseq, hport, hqueue⟩ hseq hw
  rw [await_succ_of_queue hset (List.cons_ne_nil _ _)]
  generalize ht : (afterAccess s _ none .done).setTick (s.ops.a1 ++ s.ops.a0) = t
  have hlisted : t.turns = [] := by rw [← ht, State.setTick_turns, afterAccess_turns, hturns, List.tail_nil]
  have hidle : t.seq = .idle := by rw [← ht]; exact hseq
  have hstget : HostIssues t (writeAccess t.cfg .cmd (encode .stget)) [] := by
    subst ht
    exact ⟨nextTurn_of_idle hlisted hidle, rfl, rfl⟩
  have hafter : HostIdle (afterAccess t [] none .done) :=
    ⟨by rw [afterAccess_turns, hlisted, List.tail_nil], hidle, rfl, rfl⟩
  refine ⟨_, await_stget (Nat.le_add_left 1 n) hstget hidle, hafter, ?width, ?tick, ?err⟩
  all_goals simp [← ht, hw]

/-- R131: the three steps of the wait are the handler's entry, its STSET and the host's own STGET. -/
theorem getTicks_of_handler (hturns : s.turns = [.handler [writeAccess s.cfg .cmd (encode .stset)]]) (hseq : s.seq = .idle)
    (hqueue : s.host.queue = []) (hport : s.host.port = none) (hw : s.cfg.tickW = .w64) (hfuel : 3 ≤ fuel) :
    ∃ t, getTicks fuel s = some (s.ops.a1 ++ s.ops.a0, t) ∧ t.tick = s.ops.a1 ++ s.ops.a0 ∧ t.err = s.err := by
  obtain ⟨n, rfl⟩ := Nat.exists_eq_add_of_le' hfuel
  have hentry := step_issue_of_handler hturns hqueue hport (writeAccess s.cfg .cmd (encode .stget))
  obtain ⟨u, hawait, hidle, hwidth, htick, herr⟩ := await_stset_stget (fuel := n + 2)
    (s := afterAccess s [writeAccess s.cfg .cmd (encode .stset), writeAccess s.cfg .cmd (encode .stget)] none .none)
    (congrArg List.tail hturns) hseq rfl rfl hw (Nat.le_add_left 2 n)
  have hwait := (await_succ_of_queue hentry (List.cons_ne_nil _ _)).trans hawait
  have hget := getTicks_of_stget hwait (Nat.le_add_left 1 _) hidle hwidth
  rwa [htick, herr] at hget

/-- Settles O60: the host alone, and with a handler's STSET before its STGET. -/
theorem getTicksReturnsTick : Obligations.GetTicksReturnsTick :=
  ⟨fun _ _ hfuel hturns hseq hqueue hport hw => getTicks_of_idle ⟨hturns, hseq, hqueue, hport⟩ hfuel hw,
    fun _ _ hfuel hturns hseq hqueue hport hw => getTicks_of_handler hturns hseq hqueue hport hw hfuel⟩

end Sys2Proof.Machine
end

section
/-!
PROOFS. A hold that is not met (R104, R115, R213): while SEQ ≠ 0 the host reaches nothing of the clock (R113), no other turn meets
the hold unless the inputs do or reset comes, and so the hold stands for any number of steps, also of those that R254 counts.
-/

namespace Sys2Proof.Machine

open Sys2Proof.Claims

/-! ### What the hold depends on -/

/-- SEQ, the images, the request, the cached frequencies and CLK_VALID. -/
def clockPieces (s : State) := (s.seq, s.img, s.clkreq, s.flreq, s.freqs, s.clkValid)

/-- The pieces of the clock, the inputs and the turns listed. -/
def holdPieces (s : State) := (clockPieces s, s.inputs, s.turns)

theorem seqEnabled_congr {s t : State} (seq : t.seq = s.seq) (clkreq : t.clkreq = s.clkreq) (inputs : t.inputs = s.inputs) :
    seqEnabled t = seqEnabled s := by
  simp only [seqEnabled, seq, clkreq, inputs]

theorem ne_idle_of_holding {s : State} (h : holding s) : s.seq ≠ .idle := by
  obtain ⟨hseq | hseq | hseq, -⟩ := h <;> simp [hseq]

/-- The same clock with inputs that do not meet the hold. -/
theorem holding.of_clockPieces {s t : State} (h : holding s) (clock : clockPieces t = clockPieces s)
    (unmet : seqEnabled t = false) : holding t := by
  simp only [clockPieces, Prod.mk.injEq] at clock
  exact ⟨clock.1.symm ▸ h.1, unmet⟩

/-- Whether a turn releases the hold depends on SEQ and the request alone. -/
theorem releases_congr {s t : State} (clock : clockPieces t = clockPieces s) (x : Turn) : Releases t x ↔ Releases s x := by
  simp only [clockPieces, Prod.mk.injEq] at clock
  obtain ⟨seq, -, clkreq, -⟩ := clock
  cases x
  case inputs i =>
    exact iff_of_eq (congrArg (· = true) (seqEnabled_congr (s := s.setInputs i) (t := t.setInputs i) seq clkreq rfl))
  all_goals exact Iff.rfl

/-! ### One step of a held sequencer -/

/-- R113: with SEQ ≠ 0 an access of the host reaches nothing of the clock. -/
theorem portAccess_keeps_holdPieces {a : HostAccess} {s t : State} (hs : s.seq ≠ .idle) (h : portAccess a s = .next t) :
    holdPieces t = holdPieces s := by
  have hbusy := busy_of_ne_idle hs
  obtain ⟨off, -, ⟨-, rfl⟩ | ⟨-, -, rfl⟩ | ⟨v, -, -, h⟩⟩ := portAccess_next h
  · rfl
  · rfl
  obtain ⟨-, -, rfl⟩ | ⟨-, rfl⟩ | ⟨hfree, -⟩ | ⟨r, -, -, hfree, rfl⟩ := portWrite_next h
  · rfl
  · rfl
  · exact absurd (hbusy.symm.trans hfree) (by decide)
  · obtain ⟨-, -, seq, -, freqs, valid, img, -, -, -, -, -, inputs, -, turns, -, request⟩ := writeReg_same r v (respond .done s)
    obtain ⟨clkreq, flreq⟩ := request (hfree hbusy)
    simp only [holdPieces, clockPieces, seq, img, clkreq, flreq, freqs, valid, inputs, turns]
    rfl

theorem hostTurn_keeps_holdPieces {s t : State} (hs : s.seq ≠ .idle) (h : hostTurn s = .next t) :
    holdPieces t = holdPieces s := by
  obtain ⟨a, -, h⟩ | ⟨-, -, rfl⟩ | ⟨a, rest, -, -, h⟩ := hostTurn_next h
  · refine (portAccess_keeps_holdPieces ?_ h).trans rfl
    exact hs
  · rfl
  · refine (portAccess_keeps_holdPieces ?_ h).trans rfl
    exact hs

theorem tickEvent_keeps_holdPieces (s : State) : holdPieces (tickEvent s) = holdPieces s := by
  obtain ⟨-, -, -, seq, -, -, clkreq, flreq, -, freqs, valid, img, -, -, -, -, inputs, -, turns⟩ := tickEvent_same s
  simp only [holdPieces, clockPieces, seq, img, clkreq, flreq, freqs, valid, inputs, turns]

theorem updateEvent_keeps_holdPieces (b : TimId) (s : State) : holdPieces (updateEvent b s) = holdPieces s := by
  obtain ⟨-, -, -, seq, -, -, clkreq, flreq, -, freqs, valid, img, -, -, -, inputs, -, turns, -⟩ := updateEvent_same b s
  simp only [holdPieces, clockPieces, seq, img, clkreq, flreq, freqs, valid, inputs, turns]

theorem clockPieces_beginStep (s : State) : clockPieces (beginStep s) = clockPieces s := by
  simp [clockPieces, beginStep_eq]

/-- A held sequencer stays held over every step whose turn does not release it. -/
theorem step_of_holding {s t : State} (hs : holding s) (hr : ¬ Releases s (nextTurn s)) (h : step s = .next t) :
    holding t ∧ clockPieces t = clockPieces s ∧ t.turns = s.turns.tail := by
  have kept (e : holdPieces t = holdPieces (beginStep s)) :
      holding t ∧ clockPieces t = clockPieces s ∧ t.turns = s.turns.tail := by
    simp only [holdPieces, Prod.mk.injEq] at e
    obtain ⟨clock, inputs, turns⟩ := e
    rw [clockPieces_beginStep] at clock
    refine ⟨hs.of_clockPieces clock ?_, clock, turns⟩
    simp only [clockPieces, Prod.mk.injEq] at clock
    obtain ⟨seq, -, clkreq, -⟩ := clock
    exact (seqEnabled_congr (s := s) seq clkreq inputs).trans hs.2
  obtain ⟨-, h⟩ | ⟨l, -, rfl⟩ | ⟨-, rfl⟩ | ⟨-, rfl⟩ | ⟨b, -, rfl⟩ | ⟨i, turn, rfl⟩ | ⟨turn, rfl⟩ := step_next h
  · exact kept (hostTurn_keeps_holdPieces (ne_idle_of_holding hs) h)
  · exact kept rfl
  · obtain ⟨enabled, -⟩ | ⟨-, same⟩ := seqStep_cases (beginStep s)
    · exact absurd (hs.2.symm.trans enabled) (by decide)
    · exact kept (congrArg holdPieces same)
  · exact kept (tickEvent_keeps_holdPieces _)
  · exact kept (updateEvent_keeps_holdPieces b _)
  · rw [turn] at hr
    have unmet : seqEnabled (s.setInputs i) = false := Bool.eq_false_of_not_eq_true hr
    have same : seqEnabled ((beginStep s).setInputs i) = seqEnabled (s.setInputs i) := seqEnabled_congr rfl rfl rfl
    have clock : clockPieces ((beginStep s).setInputs i) = clockPieces s := clockPieces_beginStep s
    exact ⟨hs.of_clockPieces clock (same.trans unmet), clock, rfl⟩
  · rw [turn] at hr
    exact (hr trivial).elim

/-! ### A hang -/

/-- The sequencer is held, and no turn listed can end the hold. -/
structure Hangs (s : State) : Prop where
  held : holding s
  listed : ∀ x ∈ s.turns, ¬ Releases s x

/-- The turn of the next step is listed, or the host's in the default order. -/
theorem Hangs.nextTurn {s : State} (h : Hangs s) : ¬ Releases s (nextTurn s) := by
  cases hturns : s.turns with
  | nil =>
    simp only [Machine.nextTurn, hturns, h.held.2]
    exact id
  | cons x rest =>
    simp only [Machine.nextTurn, hturns]
    exact h.listed x (by simp [hturns])

theorem Hangs.step {s t : State} (h : Hangs s) (hs : step s = .next t) : Hangs t ∧ clockPieces t = clockPieces s := by
  obtain ⟨held, clock, turns⟩ := step_of_holding h.held h.nextTurn hs
  refine ⟨⟨held, fun x hx => ?_⟩, clock⟩
  rw [releases_congr clock]
  exact h.listed x (List.mem_of_mem_tail (turns ▸ hx))

/-- What is no part of the run (R254) is no part of the hang. -/
theorem Hangs.withinRun {s : State} (h : Hangs s) : Hangs (withinRun s) := by
  obtain ⟨l, hl, heq⟩ := withinRun_eq s
  rw [heq]
  exact ⟨h.held, fun x hx => h.listed x (hl x hx)⟩

/-- A run of at least one step that answers a next state. -/
theorem core_run_succ_next {n : Nat} {s t : State} (h : Sys2Proof.core.run (n + 1) s = .next t) :
    ∃ u, step s = .next u ∧ Sys2Proof.core.run n u = .next t := by
  cases hs : step s with
  | next u => exact ⟨u, rfl, (core_run_succ hs).symm.trans h⟩
  | fault r =>
    have hs' : Sys2Proof.core.step s = .fault r := hs
    simp only [Host.Core.run, hs', reduceCtorEq] at h
  | refused r =>
    have hs' : Sys2Proof.core.step s = .refused r := hs
    simp only [Host.Core.run, hs', reduceCtorEq] at h

theorem Hangs.run {n : Nat} {s t : State} (h : Hangs s) (hrun : Sys2Proof.core.run n s = .next t) :
    Hangs t ∧ clockPieces t = clockPieces s := by
  induction n generalizing s with
  | zero =>
    cases hrun
    exact ⟨h, rfl⟩
  | succ n ih =>
    obtain ⟨u, hstep, hrun⟩ := core_run_succ_next hrun
    obtain ⟨hu, clock⟩ := h.step hstep
    obtain ⟨ht, clock'⟩ := ih hu hrun
    exact ⟨ht, clock'.trans clock⟩

/-- The run of a hang is never over. -/
theorem Hangs.runEnd_ne_some {n : Nat} {s u : State} (h : Hangs s) : runEnd n s ≠ some u := by
  induction n generalizing s with
  | zero =>
    intro he
    obtain ⟨done, -⟩ | ⟨-, -, k, t, hk, -⟩ := runEnd_cases he
    · exact ne_idle_of_holding h.held done.2
    · cases hk
  | succ n ih =>
    intro he
    obtain ⟨done, -⟩ | ⟨-, -, k, t, hk, hstep, he⟩ := runEnd_cases he
    · exact ne_idle_of_holding h.held done.2
    · cases hk
      exact ih (h.withinRun.step hstep).1 he

/-- Settles O27: every step keeps the hang, whatever its turn. -/
theorem hangPersists : Obligations.HangPersists := by
  refine ⟨fun n s t hs hr hrun => ?persists, fun s hs hr t ⟨n, u, he, _⟩ => Hangs.runEnd_ne_some ⟨hs, hr⟩ he⟩
  case persists =>
    obtain ⟨ht, clock⟩ := Hangs.run ⟨hs, hr⟩ hrun
    simp only [clockPieces, Prod.mk.injEq] at clock
    obtain ⟨seq, img, clkreq, flreq, freqs, valid⟩ := clock
    exact ⟨ht.held, seq, img, clkreq, flreq, freqs, valid⟩

end Sys2Proof.Machine
end

section
/-!
PROOFS. A clock request (R91 to R97): its fields as numbers, Table R91 value by value, the six flags each as its own check, and
what makes a request valid; then the four commands of the clock (R98 to R101).
-/

namespace Sys2Proof.Machine

open Sys2Proof.Claims

/-! ### The fields of a request as numbers (R21, R22) -/

theorem reqSw_toNat (c : Word) : (reqSw c).toNat = c.toNat % 4 := by
  rw [reqSw, BitVec.extractLsb'_toNat, Nat.shiftRight_zero]

theorem reqSw_eq_iff (c : Word) (v : BitVec 2) : reqSw c = v ↔ c.toNat % 4 = v.toNat := by
  rw [← BitVec.toNat_inj, reqSw_toNat]

theorem reqAdcpre_toNat (c : Word) : (reqAdcpre c).toNat = c.toNat / 2 ^ 14 % 4 := by
  rw [reqAdcpre, BitVec.extractLsb'_toNat, Nat.shiftRight_eq_div_pow]

theorem reqLat_toNat (fl : Word) : (reqLat fl).toNat = fl.toNat % 8 := by
  rw [reqLat, BitVec.extractLsb'_toNat, Nat.shiftRight_zero]

/-! ### Table R91 -/

section TableR91

variable {cfg : Config} (h : cfg.sel = State.reset.cfg.sel)

include h

theorem hpreDiv_tableR91 (v : BitVec 4) :
    hpreDiv cfg v = [1, 1, 1, 1, 1, 1, 1, 1, 2, 4, 8, 16, 64, 128, 256, 512].getD v.toNat 0 := by
  rw [hpreDiv, h]; revert v; decide

theorem ppreDiv_tableR91 (v : BitVec 3) : ppreDiv cfg v = [1, 1, 1, 1, 2, 4, 8, 16].getD v.toNat 0 := by
  rw [ppreDiv, h]; revert v; decide

theorem adcDiv_tableR91 (v : BitVec 2) : adcDiv cfg v = [2, 4, 6, 8].getD v.toNat 0 := by
  rw [adcDiv, h]; revert v; decide

/-- The same by the rule: ADCPRE counts in twos. -/
theorem adcDiv_tableR91_eq_mul (v : BitVec 2) : adcDiv cfg v = 2 * (v.toNat + 1) := by
  rw [adcDiv, h]; revert v; decide

theorem xtpreDiv_tableR91 (b : Bool) : xtpreDiv cfg b = if b then 2 else 1 := by
  rw [xtpreDiv, h]; cases b <;> rfl

theorem pllMul_tableR91 (v : BitVec 4) :
    pllMul cfg v = [2, 3, 4, 5, 6, 7, 8, 9, 10, 11, 12, 13, 14, 15, 16, 16].getD v.toNat 0 := by
  rw [pllMul, h]; revert v; decide

/-- USBPRE = 0 multiplies by 2/3, USBPRE = 1 by 1/1. -/
theorem usbClock_tableR91 (b : Bool) (f : Nat) : usbClock cfg b f = if b then f else f * 2 / 3 := by
  rw [usbClock, h]
  cases b
  · rfl
  · calc f * 1 / 1 = f := by rw [Nat.mul_one, Nat.div_one]

end TableR91

/-! ### The frequencies of a request (R92 to R94) -/

/-- R93: the source that SW selects. -/
theorem fCore_eq_getD (cfg : Config) (c : Word) :
    fCore cfg c = [cfg.hsiHz, cfg.hseHz, fPll cfg c, 0].getD (c.toNat % 4) 0 := by
  have hlt : c.toNat % 4 < 4 := Nat.mod_lt _ (by decide)
  unfold fCore
  rw [reqSw_toNat]
  interval_cases c.toNat % 4 <;> rfl

theorem fCore_of_reserved (cfg : Config) {c : Word} (h : c.toNat % 4 = 3) : fCore cfg c = 0 := by
  rw [fCore_eq_getD, h]; rfl

theorem fAhb_le_fCore (cfg : Config) (c : Word) : fAhb cfg c ≤ fCore cfg c := Nat.div_le_self _ _

theorem fApb2_le_fCore (cfg : Config) (c : Word) : fApb2 cfg c ≤ fCore cfg c :=
  (Nat.div_le_self _ _).trans (fAhb_le_fCore cfg c)

/-- Settles O17: the tables entry by entry, and the frequencies as defined. -/
theorem clockTreeFormulas : Obligations.ClockTreeFormulas :=
  ⟨fun _ h => ⟨hpreDiv_tableR91 h, ppreDiv_tableR91 h, adcDiv_tableR91 h, xtpreDiv_tableR91 h, pllMul_tableR91 h,
      usbClock_tableR91 h⟩,
    fun cfg c => ⟨rfl, fCore_eq_getD cfg c, rfl, rfl, rfl⟩⟩

/-! ### The flags of a request (R97) -/

theorem ckflagsOf_reserved (cfg : Config) {c : Word} (fl : Word) (h : c.toNat % 4 = 3) : ckflagsOf cfg c fl = 0x10#6 :=
  if_pos ((reqSw_eq_iff c 3#2).mpr h)

/-- Each of the six flags, where SW selects a clock. -/
theorem ckflagsOf_bits {cfg : Config} (hcfg : cfg.wf) {c : Word} (fl : Word) (h : c.toNat % 4 ≠ 3) :
    ((ckflagsOf cfg c fl).getLsbD 0 = true ↔ 72000000 < fCore cfg c) ∧
    ((ckflagsOf cfg c fl).getLsbD 1 = true ↔ 72000000 < fAhb cfg c) ∧
    ((ckflagsOf cfg c fl).getLsbD 2 = true ↔ 36000000 < fApb1 cfg c) ∧
    ((ckflagsOf cfg c fl).getLsbD 3 = true ↔ 72000000 < fApb2 cfg c) ∧ (ckflagsOf cfg c fl).getLsbD 4 = false ∧
    ((ckflagsOf cfg c fl).getLsbD 5 = true ↔ fl.toNat % 8 ≠ wsReq cfg (fCore cfg c)) := by
  have hsw : reqSw c ≠ 3#2 := fun hc => h ((reqSw_eq_iff c 3#2).mp hc)
  rw [ckflagsOf_eq hcfg, if_neg hsw, reqLat_toNat]
  simp (disch := decide) only [getLsbD_append_low, getLsbD_append_high]
  simp

/-- Settles O18: the flags one by one; AHB and APB2 are divided from the core clock. -/
theorem validityFlags : Obligations.ValidityFlags := by
  refine fun cfg c fl hcfg => ⟨ckflagsOf_reserved cfg fl, fun hsw => ?_⟩
  rintro _ rfl
  obtain ⟨core, ahb, apb1, apb2, sw, lat⟩ := ckflagsOf_bits hcfg fl hsw
  refine ⟨core, ahb, apb1, apb2, sw, lat, fun hor => core.mpr ?_⟩
  have hahb := fAhb_le_fCore cfg c
  have hapb2 := fApb2_le_fCore cfg c
  rw [ahb, apb2] at hor
  omega

/-- Six bits are 0 if each is. -/
theorem eq_zero_of_bits : ∀ k : BitVec 6, k.getLsbD 0 ≠ true → k.getLsbD 1 ≠ true → k.getLsbD 2 ≠ true →
    k.getLsbD 3 ≠ true → k.getLsbD 4 = false → k.getLsbD 5 ≠ true → k = 0#6 := by decide

/-- R96: a core frequency within its limit has a legal count. -/
theorem wsReq_le_two {cfg : Config} (hcfg : cfg.wf) {f : Nat} (h : f ≤ 72000000) : wsReq cfg f ≤ 2 := by
  rw [wsReq_eq hcfg]
  split_ifs <;> omega

/-- Settles O19: the core limit implies those of AHB and APB2. -/
theorem validRequestsWithinLimits : Obligations.ValidRequestsWithinLimits := by
  intro cfg c fl hcfg
  constructor
  · constructor
    · intro hvalid
      obtain ⟨hsw, hlat, hcore, -, hapb1, -⟩ := valid_of_ckflagsOf hcfg hvalid
      exact ⟨fun h => hsw ((reqSw_eq_iff c 3#2).mpr h), hcore, hapb1, (reqLat_toNat fl).symm.trans hlat⟩
    · rintro ⟨hsw, hcore, hapb1, hlat⟩
      obtain ⟨core, ahb, apb1, apb2, sw, lat⟩ := ckflagsOf_bits hcfg fl hsw
      have hahb := fAhb_le_fCore cfg c
      have hapb2 := fApb2_le_fCore cfg c
      exact eq_zero_of_bits _ (mt core.mp (by omega)) (mt ahb.mp (by omega)) (mt apb1.mp (by omega))
        (mt apb2.mp (by omega)) sw (mt lat.mp (· hlat))
  · intro hvalid
    obtain ⟨-, hlat, hcore, hahb, -, hapb2⟩ := valid_of_ckflagsOf hcfg hvalid
    rw [← reqLat_toNat, hlat]
    exact ⟨hahb, hapb2, wsReq_le_two hcfg hcore⟩

/-! ### The commands of the clock (R98 to R101) -/

theorem exec_ckdrv (s : State) : exec .ckdrv s = .next ((s.setRes ⟨lowWord (fCore s.cfg s.clkreq),
    lowWord (fAhb s.cfg s.clkreq), lowWord (fApb1 s.cfg s.clkreq), lowWord (fApb2 s.cfg s.clkreq)⟩).setCkflags
      (ckflagsOf s.cfg s.clkreq s.flreq)) := rfl

/-- Settles O20: with SW = 3 the core frequency is 0, and so are those divided from it. -/
theorem ckdrvDerivesFrequencies : Obligations.CkdrvDerivesFrequencies := by
  refine ⟨by decide, fun s => ⟨exec_ckdrv s, fun hsw => ?_⟩⟩
  have hcore := fCore_of_reserved s.cfg hsw
  have hahb : fAhb s.cfg s.clkreq = 0 := Nat.le_zero.mp (hcore ▸ fAhb_le_fCore s.cfg s.clkreq)
  rw [exec_ckdrv, ckflagsOf_reserved _ _ hsw, fApb1, fApb2, hahb, hcore, Nat.zero_div, Nat.zero_div]
  rfl

/-- Settles O21: by the thresholds of a legal configuration. -/
theorem ckwsSelectsWaitStates : Obligations.CkwsSelectsWaitStates := by
  refine ⟨by decide, fun s hcfg => ?_⟩
  have hexec : exec .ckws s = .next (setR0 (lowWord (wsReq s.cfg s.ops.a0.toNat)) s) := rfl
  rw [hexec, setR0_eq, wsReq_eq hcfg]
  split_ifs <;> rfl

theorem exec_ckaux_of_reserved {s : State} (h : reqSw s.clkreq = 3#2) : exec .ckaux s = .next (setR01 0#32 0#32 s) :=
  if_pos h

theorem exec_ckaux {s : State} (h : reqSw s.clkreq ≠ 3#2) : exec .ckaux s =
    .next (setR01 (lowWord (fApb2 s.cfg s.clkreq / adcDiv s.cfg (reqAdcpre s.clkreq)))
      (lowWord (usbClock s.cfg (reqUsbpre s.clkreq) (fPll s.cfg s.clkreq))) s) :=
  if_neg h

/-- Settles O22: by SW, and with Table R91's ADC divisor and USB factor. -/
theorem ckauxAdcUsbClocks : Obligations.CkauxAdcUsbClocks := by
  refine ⟨by decide, fun s => ⟨fun h => ?reserved, fun h => ?selected, fun hsel => ⟨?adc, usbClock_tableR91 hsel _ _⟩⟩⟩
  case reserved => exact exec_ckaux_of_reserved ((reqSw_eq_iff _ 3#2).mpr h)
  case selected => exact exec_ckaux (mt (reqSw_eq_iff _ 3#2).mp h)
  case adc =>
    rw [← reqAdcpre_toNat]
    exact adcDiv_tableR91_eq_mul hsel _

/-- Settles O23: the two checks in their order, then the start of the sequencer. -/
theorem ckcfgStartsSequencer : Obligations.CkcfgStartsSequencer := by
  refine ⟨by decide, fun s => ⟨fun hv => if_pos hv, fun hv hk => ?invalid, fun hv hk => ?accepted⟩⟩
  all_goals
    have hnew : ¬ s.clkValid = true := by simp [hv]
    refine (if_neg hnew).trans ?_
  case invalid => exact if_pos hk
  case accepted => exact if_neg (not_not.mpr hk)

end Sys2Proof.Machine
end

section
/-!
PROOFS. The sequencer (R104 to R114, R117): what its turn does in each phase, the edges of the phase graph, what else changes
SEQ; and the writes of the host that wait for SEQ = 0 (R113).
-/

namespace Sys2Proof.Machine

open Sys2Proof.Claims

/-! ### The sequencer's turn, phase by phase (R104 to R114) -/

theorem atTurn_eq_beginStep (s : State) : atTurn s = beginStep s := rfl

theorem step_of_sequencer {s t : State} (h : nextTurn s = .sequencer) (ht : seqStep (atTurn s) = t) : step s = .next t := by
  rw [step, h, ← ht]; rfl

/-- SW alone of the request, as phase SWITCH writes it (R111). -/
theorem reqSw_setWidth (c : Word) : (reqSw c).setWidth 32 = c &&& 0x00000003#32 := by
  apply BitVec.eq_of_toNat_eq
  have hmask : (0x00000003#32).toNat = 2 ^ 2 - 1 := rfl
  rw [BitVec.toNat_setWidth_of_le (by decide), reqSw_toNat, BitVec.toNat_and, hmask, Nat.and_two_pow_sub_one_eq_mod]

/-- R112: the switch is answered exactly if the two selections are the same number. -/
theorem sws_beq_reqSw (v : BitVec 2) (c : Word) : (v == reqSw c) = decide (v.toNat = c.toNat % 4) := by
  rw [← reqSw_toNat, Bool.eq_iff_iff, beq_iff_eq, decide_eq_true_iff, BitVec.toNat_inj]

section Phases

variable {u : State}

theorem seqStep_flash (h : u.seq = .flash) : seqStep u = (u.setImg { u.img with flash := u.flreq }).setSeq .hseOn := by
  simp only [seqStep, seqEnabled, seqPhase, h, if_true]

theorem seqStep_hseOn (h : u.seq = .hseOn) :
    seqStep u = (u.setImg { u.img with rcccr := u.img.rcccr ||| hseOnBit }).setSeq .hseWait := by
  simp only [seqStep, seqEnabled, seqPhase, h, if_true]

theorem seqStep_hseWait (h : u.seq = .hseWait) : seqStep u = if u.inputs.hseRdy then u.setSeq .cfgr else u := by
  simp only [seqStep, seqEnabled, seqPhase, h]

theorem seqStep_cfgr (h : u.seq = .cfgr) :
    seqStep u = (u.setImg { u.img with
      cfgr := (u.clkreq &&& cfgrBatchMask) ||| (u.img.cfgr &&& 0x00000003#32) }).setSeq
        (if u.clkreq.toNat % 4 = 2 then .pllOn else .switch) := by
  simp only [seqStep, seqEnabled, seqPhase, h, if_true, reqSw_eq_iff]
  rfl

theorem seqStep_pllOn (h : u.seq = .pllOn) :
    seqStep u = (u.setImg { u.img with rcccr := u.img.rcccr ||| pllOnBit }).setSeq .pllWait := by
  simp only [seqStep, seqEnabled, seqPhase, h, if_true]

theorem seqStep_pllWait (h : u.seq = .pllWait) : seqStep u = if u.inputs.pllRdy then u.setSeq .switch else u := by
  simp only [seqStep, seqEnabled, seqPhase, h]

theorem seqStep_switch (h : u.seq = .switch) :
    seqStep u = (u.setImg { u.img with
      cfgr := (u.img.cfgr &&& cfgrBatchMask) ||| (u.clkreq &&& 0x00000003#32) }).setSeq .swWait := by
  simp only [seqStep, seqEnabled, seqPhase, h, if_true, reqSw_setWidth]

theorem seqStep_swWait (h : u.seq = .swWait) :
    seqStep u = if u.inputs.sws.toNat = u.clkreq.toNat % 4 then u.setSeq .freq else u := by
  simp only [seqStep, seqEnabled, seqPhase, h, sws_beq_reqSw, decide_eq_true_eq]

theorem seqStep_freq (h : u.seq = .freq) :
    seqStep u = ((u.setFreqs ⟨lowWord (fCore u.cfg u.clkreq), lowWord (fAhb u.cfg u.clkreq), lowWord (fApb1 u.cfg u.clkreq),
      lowWord (fApb2 u.cfg u.clkreq)⟩).setClkValid true).setSeq .idle := by
  simp only [seqStep, seqEnabled, seqPhase, h, if_true]

end Phases

/-- A turn of the host that finds nothing to issue. -/
theorem step_of_host_done {s : State} (hturn : nextTurn s = .host) (hport : s.host.port = none)
    (hqueue : s.host.queue = []) : step s = .next (atTurn s) := by
  have hp : (atTurn s).host.port = none := hport
  have hq : (atTurn s).host.queue = [] := hqueue
  rw [step, hturn, takeTurn, ← atTurn_eq_beginStep, hostTurn, hp, hq]

/-- Settles O24: each phase by its own lemma, and the turns that leave the engine alone. -/
theorem sequencerPhaseSteps : Obligations.SequencerPhaseSteps := by
  refine ⟨?phases, fun s i h => ?inputs, fun s => step_of_host_done, fun s l h => ?handler⟩
  case inputs => rw [step, h]; rfl
  case handler => rw [step, h]; rfl
  case phases =>
    rintro s hturn _ rfl
    exact ⟨fun h => step_of_sequencer hturn (seqStep_of_idle h),
      fun h => step_of_sequencer hturn (seqStep_flash h),
      fun h => step_of_sequencer hturn (seqStep_hseOn h),
      fun h => step_of_sequencer hturn (seqStep_hseWait h),
      fun h => step_of_sequencer hturn (seqStep_cfgr h),
      fun h => step_of_sequencer hturn (seqStep_pllOn h),
      fun h => step_of_sequencer hturn (seqStep_pllWait h),
      fun h => step_of_sequencer hturn (seqStep_switch h),
      fun h => step_of_sequencer hturn (seqStep_swWait h),
      fun h => step_of_sequencer hturn (seqStep_freq h)⟩

/-! ### The phase graph (R117) -/

/-- A turn of the sequencer that changes SEQ takes an edge of the graph. -/
theorem seqStep_edge {s : State} (h : (seqStep s).seq ≠ s.seq) : PhaseEdge s (seqStep s).seq := by
  obtain ⟨enabled, same⟩ | ⟨-, same⟩ := seqStep_cases s
  · rw [same]
    cases hseq : s.seq
    case idle => simp [seqEnabled, hseq] at enabled
    case hseWait | pllWait | swWait => simpa [seqEnabled, PhaseEdge, seqPhase, hseq] using enabled
    case cfgr => by_cases hsw : reqSw s.clkreq = 2#2 <;> simp [PhaseEdge, seqPhase, hseq, hsw]
    all_goals simp [PhaseEdge, seqPhase, hseq]
  · exact absurd (congrArg State.seq same) h

/-- A command that changes SEQ is an accepted CKCFG (R16, R101). -/
theorem eq_ckcfg_of_exec_seq {i : Instr} {s t : State} (h : exec i s = .next t) (hne : t.seq ≠ s.seq) :
    i = .ckcfg ∧ t.seq = .flash := by
  have listed : Piece.seq ∈ mayWrite s.cfg i := by
    by_contra hp
    exact hne (commandFootprint i s t .seq h hp)
  obtain rfl := eq_ckcfg_of_seq_mem listed
  obtain ⟨e, rfl⟩ | ⟨-, -, rfl⟩ := exec_next h
  · exact absurd rfl hne
  · exact ⟨rfl, rfl⟩

/-- Settles O25: of the effects of a step only CKCFG, a sequencer turn and reset write SEQ. -/
theorem phaseGraphOnly : Obligations.PhaseGraphOnly := by
  intro s t h hne
  obtain ⟨u, hu, effect⟩ := step_effect h
  have hseq : u.seq = s.seq := by obtain ⟨_, _, _, rfl⟩ := hu; rfl
  rw [← hseq] at hne
  cases effect with
  | nothing h => exact absurd (h ▸ rfl) hne
  | inputs i h => exact absurd (h ▸ rfl) hne
  | write r v _ h =>
    obtain ⟨-, -, same, -⟩ := writeReg_same r v u
    exact absurd (h ▸ same) hne
  | illegalWord e h => exact absurd (h ▸ rfl) hne
  | command i runs h =>
    obtain ⟨rfl, flash⟩ := eq_ckcfg_of_exec_seq h hne
    exact .inr (.inl ⟨runs, flash⟩)
  | sequencer turn h =>
    subst h
    obtain ⟨_, _, _, rfl⟩ := hu
    exact .inr (.inr ⟨turn, seqStep_edge hne⟩)
  | tick _ h =>
    obtain ⟨-, -, -, same, -⟩ := tickEvent_same u
    exact absurd (h ▸ same) hne
  | update b _ h => exact absurd (h ▸ rfl) hne
  | reset turn h => exact .inl ⟨turn, h ▸ rfl⟩

/-! ### Writes that wait for SEQ = 0 (R113) -/

/-- Where a write stands stalled, the host's turn tries it again. -/
theorem step_of_stalled {s : State} {a : HostAccess} (hturn : nextTurn s = .host) (hport : s.host.port = some a) :
    step s = portAccess a (afterAccess s s.host.queue none .none) := by
  have hp : (beginStep s).host.port = some a := hport
  rw [step, hturn, takeTurn, hostTurn, hp]
  rfl

/-- Settles O10: a stalled write tried again is the same access as one newly issued. -/
theorem stallWhileBusy : Obligations.StallWhileBusy := by
  obtain ⟨writes, -⟩ := registerWriteClasses
  obtain ⟨-, reads⟩ := readsChangeNothing
  refine ⟨fun s r v rest h hs hr => ?issued, fun s r v hturn hport hs hr => ?standing, fun s a hturn hport _ => ?released,
    fun s r v rest hs => ⟨fun h => ?read, fun h => ?err, fun h => ?clamp⟩⟩
  case issued =>
    obtain ⟨-, -, held⟩ := writes s r v rest h
    exact held hs hr
  case standing =>
    rw [step_of_stalled hturn hport, hport]
    exact portAccess_stalled (s := afterAccess s s.host.queue none .none) v hs hr
  case released =>
    have issues : HostIssues (s.setHost ⟨a :: s.host.queue, none, s.host.resp⟩) a s.host.queue := ⟨hturn, rfl, rfl⟩
    rw [step_of_stalled hturn hport, step_eq_portAccess issues]
    rfl
  case read =>
    obtain ⟨-, aligned⟩ := regAt_regOffset r
    obtain ⟨answered, -⟩ := reads s (regOffset r) rest ((extractLsb'_low_eq_zero_iff _).mp aligned) h
    exact ⟨_, answered⟩
  case err =>
    obtain ⟨stored, -⟩ := writes s .err v rest h
    exact stored (.inr (by decide)) (by decide)
  case clamp =>
    obtain ⟨stored, -⟩ := writes s .clamp v rest h
    exact stored (.inr (by decide)) (by decide)

end Sys2Proof.Machine
end

section
/-!
PROOFS. The clock comes up (R101, R105 to R114, R117): with the inputs answering and no turn listed each step of the sequencer is
one phase nearer to IDLE, and what phase FREQ leaves is what the invariant says of a configured clock.
-/

namespace Sys2Proof.Machine

open Sys2Proof.Claims

/-! ### A sequence that nothing holds up -/

/-- The invariant holds, no turn is listed, and the inputs answer every hold of the request. -/
structure Answered (s : State) : Prop where
  inv : EngineInv s
  turns : s.turns = []
  hse : s.inputs.hseRdy = true
  pll : s.inputs.pllRdy = true
  sws : s.inputs.sws = reqSw s.clkreq

/-- The sequencer steps from a phase to IDLE; `pll` is 2 where the PLL is selected, its two phases, and 0 otherwise (R117). -/
def phasesLeft (pll : Nat) : Phase → Nat
  | .idle => 0
  | .freq => 1
  | .swWait => 2
  | .switch => 3
  | .pllWait => 4
  | .pllOn => 5
  | .cfgr => 4 + pll
  | .hseWait => 5 + pll
  | .hseOn => 6 + pll
  | .flash => 7 + pll

/-- The sequencer steps from `s` to IDLE. -/
def stepsLeft (s : State) : Nat := phasesLeft (if reqSw s.clkreq = 2#2 then 2 else 0) s.seq

/-- What no step of the sequence writes. -/
def outsideClock (s : State) :=
  ((s.cfg, s.clkreq, s.flreq, s.err, s.ops, s.res, s.tick, s.tim, s.pwm), s.inputs, s.turns, s.host.queue, s.host.port)

theorem outsideClock_seqStep (s : State) : outsideClock (seqStep s) = outsideClock s := by
  obtain ⟨cfg, ops, res, err, -, clkreq, flreq, -, -, tick, tim, pwm, -, inputs, host, turns, -⟩ := seqStep_same s
  simp only [outsideClock, cfg, ops, res, err, clkreq, flreq, tick, tim, pwm, inputs, host, turns]

theorem seqStep_of_enabled {s : State} (h : seqEnabled s = true) : seqStep s = seqPhase s := if_pos h

theorem Answered.outsideClock_step {s : State} (h : Answered s) : outsideClock (seqStep (atTurn s)) = outsideClock s := by
  rw [outsideClock_seqStep]
  simp [outsideClock, atTurn, afterAccess, h.turns]

/-- With no turn listed a run of R254 takes the steps of the machine. -/
theorem runEnd_step_of_turns_nil {s t : State} (hturns : s.turns = []) (hgoing : ¬ runOver s) (hturn : nextTurn s ≠ .rst)
    (hstep : step s = .next t) (n : Nat) : runEnd (n + 1) s = runEnd n t := by
  have hwithin : withinRun s = s := withinRun_of_turns_nil hturns
  exact runEnd_succ hgoing (hwithin.symm ▸ hturn) (hwithin.symm ▸ hstep)

section Step

variable {s : State} (h : Answered s) (hne : s.seq ≠ .idle)

include h hne

theorem Answered.enabled : seqEnabled s = true := by
  cases hseq : s.seq <;> simp [seqEnabled, hseq, h.hse, h.pll, h.sws]
  exact hne hseq

theorem Answered.nextTurn : nextTurn s = .sequencer := by
  simp [Machine.nextTurn, h.turns, h.enabled hne]

theorem Answered.step : step s = .next (seqStep (atTurn s)) := step_of_sequencer (h.nextTurn hne) rfl

theorem Answered.answered_step : Answered (seqStep (atTurn s)) := by
  have frame := h.outsideClock_step
  simp only [outsideClock, Prod.mk.injEq] at frame
  obtain ⟨⟨-, clkreq, -⟩, inputs, turns, -⟩ := frame
  refine ⟨stepKeepsInvariant s _ h.inv (h.step hne), turns.trans h.turns, ?_, ?_, ?_⟩
  · rw [inputs, h.hse]
  · rw [inputs, h.pll]
  · rw [inputs, clkreq, h.sws]

/-- Each phase leads to the one next in the count: every hold is met, and the phases of the PLL come only with SW = 2. -/
theorem Answered.stepsLeft_step : stepsLeft s = stepsLeft (seqStep (atTurn s)) + 1 := by
  have enabled : seqEnabled (atTurn s) = true := h.enabled hne
  have clkreq : (seqPhase (atTurn s)).clkreq = s.clkreq := by
    obtain ⟨-, -, -, -, -, same, -⟩ := seqStep_same (atTurn s)
    rwa [seqStep_of_enabled enabled] at same
  rw [seqStep_of_enabled enabled, stepsLeft, stepsLeft, clkreq]
  have hseq' : (atTurn s).seq = s.seq := rfl
  cases hseq : s.seq <;> rw [hseq] at hseq' <;> simp only [seqPhase, hseq', State.setSeq_seq, phasesLeft]
  case idle => exact absurd hseq hne
  case cfgr =>
    have hreq : (atTurn s).clkreq = s.clkreq := rfl
    rw [hreq]
    split_ifs <;> rfl
  all_goals omega

/-- A run of R254 takes the same step. -/
theorem Answered.runEnd_step (n : Nat) : runEnd (n + 1) s = runEnd n (seqStep (atTurn s)) :=
  runEnd_step_of_turns_nil h.turns (fun ended => hne ended.2) (by simp [h.nextTurn hne]) (h.step hne) n

end Step

/-! ### The end of the sequence (R114) -/

/-- `t` is `s` with the clock of its request up. -/
structure ClockUp (s t : State) : Prop where
  frame : outsideClock t = outsideClock s
  inv : EngineInv t
  seq : t.seq = .idle
  valid : t.clkValid = true
  img : t.img = ⟨s.flreq, enablesFor s.clkreq, s.clkreq⟩

/-- Phase FREQ: the images are already those of the request. -/
theorem Answered.clockUp_of_freq {s : State} (h : Answered s) (hseq : s.seq = .freq) : ClockUp s (seqStep (atTurn s)) := by
  have hne : s.seq ≠ .idle := by simp [hseq]
  have freq := seqStep_freq (u := atTurn s) hseq
  have img : s.img = ⟨s.flreq, enablesFor s.clkreq, s.clkreq⟩ := by
    have images := h.inv.clock.images
    simpa only [sequenceImages, hseq] using images
  refine ⟨h.outsideClock_step, (h.answered_step hne).inv, ?_, ?_, ?_⟩
  · rw [freq, State.setSeq_seq]
  · rw [freq, State.setSeq_clkValid, State.setClkValid_clkValid]
  · rw [freq, State.setSeq_img, State.setClkValid_img, State.setFreqs_img]
    exact img

/-- A phase that counts one step is FREQ. -/
theorem eq_freq_of_stepsLeft {s : State} (h : stepsLeft s = 1) : s.seq = .freq := by
  rw [stepsLeft] at h
  cases hseq : s.seq <;> simp only [hseq, phasesLeft] at h
  case freq => rfl
  all_goals omega

theorem ne_idle_of_stepsLeft {s : State} {n : Nat} (h : stepsLeft s = n + 1) : s.seq ≠ .idle := by
  intro hseq
  simp [stepsLeft, hseq, phasesLeft] at h

/-- From any phase the counted steps bring the clock up, in a run of R254 too. -/
theorem Answered.completes {n : Nat} {s : State} (h : Answered s) (hn : stepsLeft s = n + 1) :
    ∃ t, Sys2Proof.core.run (n + 1) s = .next t ∧ ClockUp s t ∧ runEnd (n + 1) s = runEnd 0 t := by
  have hne := ne_idle_of_stepsLeft hn
  induction n generalizing s with
  | zero =>
    exact ⟨_, core_run_succ (h.step hne), h.clockUp_of_freq (eq_freq_of_stepsLeft hn), h.runEnd_step hne 0⟩
  | succ n ih =>
    have hleft : stepsLeft (seqStep (atTurn s)) = n + 1 := by
      have := h.stepsLeft_step hne
      omega
    have frame := h.outsideClock_step
    obtain ⟨t, hrun, up, hend⟩ := ih (h.answered_step hne) hleft (ne_idle_of_stepsLeft hleft)
    refine ⟨t, (core_run_succ (h.step hne)).trans hrun, ⟨up.frame.trans frame, up.inv, up.seq, up.valid, ?_⟩,
      (h.runEnd_step hne _).trans hend⟩
    simp only [outsideClock, Prod.mk.injEq] at frame
    obtain ⟨⟨-, clkreq, flreq, -⟩, -⟩ := frame
    rw [up.img, clkreq, flreq]

/-! ### From the write of CKCFG -/

/-- `s` as an accepted CKCFG leaves it, the host left with `rest` (R101). -/
def sequenceStarted (s : State) (rest : List HostAccess) : State := (afterAccess s rest none .done).setSeq .flash

section Started

variable (s : State) (rest : List HostAccess)

theorem sequenceStarted_cfg : (sequenceStarted s rest).cfg = s.cfg := rfl
theorem sequenceStarted_seq : (sequenceStarted s rest).seq = .flash := rfl
theorem sequenceStarted_clkreq : (sequenceStarted s rest).clkreq = s.clkreq := rfl
theorem sequenceStarted_flreq : (sequenceStarted s rest).flreq = s.flreq := rfl
theorem sequenceStarted_turns : (sequenceStarted s rest).turns = s.turns.tail := rfl

theorem outsideClock_sequenceStarted : outsideClock (sequenceStarted s rest) =
    ((s.cfg, s.clkreq, s.flreq, s.err, s.ops, s.res, s.tick, s.tim, s.pwm), s.inputs, s.turns.tail, rest, none) := by
  simp [outsideClock, sequenceStarted, afterAccess]

/-- Seven steps from phase FLASH, and the two of the PLL. -/
theorem stepsLeft_sequenceStarted : stepsLeft (sequenceStarted s rest) = if reqSw s.clkreq = 2#2 then 9 else 7 := by
  rw [stepsLeft, sequenceStarted_seq, sequenceStarted_clkreq]
  split_ifs <;> rfl

end Started

/-- The step of an accepted CKCFG starts the sequence. -/
theorem step_ckcfg {s : State} {rest : List HostAccess} (h : HostIssues s (writeAccess s.cfg .cmd 0x04000000#32) rest)
    (hidle : s.seq = .idle) (hv : s.clkValid = false) (hk : ckflagsOf s.cfg s.clkreq s.flreq = 0#6) :
    step s = .next (sequenceStarted s rest) := by
  obtain ⟨word, exec_eq⟩ := ckcfgStartsSequencer
  rw [← word] at h
  obtain ⟨-, -, accepted⟩ := exec_eq (afterAccess s rest none .done)
  rw [step_command rfl h hidle]
  exact accepted hv hk

/-- The cached frequencies are those of the image, and so of the request. -/
theorem ClockUp.freqs {s t : State} (h : ClockUp s t) :
    t.freqs.core.toNat = fCore s.cfg s.clkreq ∧ t.freqs.ahb.toNat = fAhb s.cfg s.clkreq ∧
    t.freqs.apb1.toNat = fApb1 s.cfg s.clkreq ∧ t.freqs.apb2.toNat = fApb2 s.cfg s.clkreq := by
  have cfg : t.cfg = s.cfg := congrArg (·.1.1) h.frame
  have cached := h.inv.clock.cached h.valid
  rwa [cfg, h.img] at cached

/-- With the host's last access made, the run is over where the clock is up. -/
theorem ClockUp.runOver {s t : State} (h : ClockUp s t) (hturns : s.turns = []) (hqueue : s.host.queue = [])
    (hport : s.host.port = none) : runOver t := by
  have frame := h.frame
  simp only [outsideClock, Prod.mk.injEq] at frame
  obtain ⟨-, -, turns, queue, port⟩ := frame
  refine ⟨(accessesLeft_eq_nil_iff t).mpr ⟨port.trans hport, queue.trans hqueue, ?_⟩, h.seq⟩
  simp [turns, hturns]

/-- An access to make keeps a run from being over. -/
theorem not_runOver_of_hostIssues {s : State} {a : HostAccess} {rest : List HostAccess} (h : HostIssues s a rest) :
    ¬ runOver s := by
  rintro ⟨left, -⟩
  obtain ⟨-, queue, -⟩ := (accessesLeft_eq_nil_iff s).mp left
  exact absurd (h.queue.symm.trans queue) (List.cons_ne_nil _ _)

/-- Settles O26: one step of the host, then the steps counted from phase FLASH. -/
theorem clockBringUpCompletes : Obligations.ClockBringUpCompletes := by
  intro s rest inv hturns issues hidle hv hk hhse hpll hsws
  have hstep := step_ckcfg issues hidle hv hk
  have noTurn : (sequenceStarted s rest).turns = [] := by rw [sequenceStarted_turns, hturns, List.tail_nil]
  have answered : Answered (sequenceStarted s rest) :=
    ⟨stepKeepsInvariant s _ inv hstep, noTurn, hhse, hpll, hsws⟩
  obtain ⟨n, hn⟩ : ∃ n, (if reqSw s.clkreq = 2#2 then 9 else 7) = n + 1 :=
    Nat.exists_eq_succ_of_ne_zero (by split_ifs <;> decide)
  have count : (if reqSw s.clkreq = 2#2 then 10 else 8) = n + 1 + 1 := by
    rw [← hn]
    split_ifs <;> rfl
  obtain ⟨t, hrun, up, hend⟩ := answered.completes ((stepsLeft_sequenceStarted s rest).trans hn)
  have frame := up.frame.trans (outsideClock_sequenceStarted s rest)
  simp only [outsideClock, Prod.mk.injEq] at frame
  obtain ⟨⟨-, clkreq, flreq, err, ops, res, tick, tim, pwm⟩, -, -, queue, port⟩ := frame
  have img := up.img
  have freqs := up.freqs
  rw [sequenceStarted_flreq, sequenceStarted_clkreq] at img
  rw [sequenceStarted_cfg, sequenceStarted_clkreq] at freqs
  obtain ⟨core, ahb, apb1, apb2⟩ := freqs
  refine ⟨t, ?run, up.seq, up.valid, err, img, core, ahb, apb1, apb2, clkreq, flreq, ops, res, tick, tim, pwm, queue,
    port, fun hrest => ⟨n + 2, t, ?ends, rfl⟩⟩
  case run => rw [count, core_run_succ hstep, hrun]
  case ends =>
    rw [runEnd_step_of_turns_nil hturns (not_runOver_of_hostIssues issues) (by simp [issues.turn]) hstep, hend]
    exact runEnd_of_over (up.runOver noTurn hrest rfl) 0

end Sys2Proof.Machine
end

section
/-!
PROOFS. The tick counter (R28, R125, R128, R204): what a write of TICK leaves modulo 2^TICK_W, what a tick event counts, and that a
run of events counts every tick once (R132).
-/

namespace Sys2Proof.Machine

open Sys2Proof.Claims

/-! ### TICK modulo 2^TICK_W (R28) -/

theorem tickWrap_toNat (cfg : Config) (v : BitVec 64) : (tickWrap cfg v).toNat = v.toNat % 2 ^ tickBits cfg := by
  cases hw : cfg.tickW with
  | w64 => rw [tickWrap_w64 hw, tickBits, hw, Nat.mod_eq_of_lt v.isLt]
  | w32 => rw [tickWrap_w32 hw, tickBits, hw]

/-- The increment of R204: the carry out of 64 bits is a multiple of 2^TICK_W. -/
theorem tickWrap_add_one_toNat (cfg : Config) (v : BitVec 64) :
    (tickWrap cfg (v + 1#64)).toNat = (v.toNat + 1) % 2 ^ tickBits cfg := by
  have hdvd : 2 ^ tickBits cfg ∣ 2 ^ 64 := Nat.pow_dvd_pow 2 (by cases hw : cfg.tickW <;> simp [tickBits, hw])
  calc (tickWrap cfg (v + 1#64)).toNat
      = (v.toNat + 1) % 2 ^ 64 % 2 ^ tickBits cfg := by rw [tickWrap_toNat, BitVec.toNat_add]; rfl
    _ = (v.toNat + 1) % 2 ^ tickBits cfg := Nat.mod_mod_of_dvd _ hdvd

/-! ### The tick event while Running (R204, R205) -/

theorem tickEvent_tick {s : State} (h : s.st.state = .running) :
    (tickEvent s).tick = tickWrap s.cfg (s.tick + 1#64) := by
  obtain ⟨-, silent, strobed⟩ := tickEvent_spec s
  cases hcb : s.st.cbEn with
  | false => rw [silent h hcb, State.setTick_tick]
  | true => rw [strobed h hcb, State.setCb_tick, State.setTick_tick]

theorem tickEvent_cb_count {s : State} (h : s.st.state = .running) :
    (tickEvent s).cb.count = s.cb.count + if s.st.cbEn then 1 else 0 := by
  obtain ⟨-, silent, strobed⟩ := tickEvent_spec s
  cases hcb : s.st.cbEn with
  | false => rw [silent h hcb]; rfl
  | true => rw [strobed h hcb]; rfl

/-! ### Counting ticks over a run (R132) -/

/-- From `s` to `t` the time base counted `n` ticks, and nothing else happened to it. -/
structure TicksCounted (s t : State) (n : Nat) : Prop where
  cfg : t.cfg = s.cfg
  st : t.st = s.st
  tick : t.tick.toNat = (s.tick.toNat + n) % 2 ^ tickBits s.cfg
  strobes : t.cb.count = s.cb.count + if s.st.cbEn then n else 0

namespace TicksCounted

variable {s t u : State} {m n : Nat}

/-- No tick yet; TICK has TICK_W bits. -/
theorem refl (hs : s.tick.toNat < 2 ^ tickBits s.cfg) : TicksCounted s s 0 :=
  ⟨rfl, rfl, by rw [Nat.add_zero, Nat.mod_eq_of_lt hs], by rw [ite_self, Nat.add_zero]⟩

/-- What leaves the time base alone counts nothing. -/
theorem keep (h : TicksCounted s t n) (cfg : u.cfg = t.cfg) (st : u.st = t.st) (tick : u.tick = t.tick)
    (count : u.cb.count = t.cb.count) : TicksCounted s u n :=
  ⟨cfg.trans h.cfg, st.trans h.st, by rw [tick, h.tick], by rw [count, h.strobes]⟩

theorem trans (h : TicksCounted s t m) (h' : TicksCounted t u n) : TicksCounted s u (m + n) where
  cfg := h'.cfg.trans h.cfg
  st := h'.st.trans h.st
  tick := by rw [h'.tick, h.cfg, h.tick, Nat.mod_add_mod, Nat.add_assoc]
  strobes := by
    rw [h'.strobes, h.strobes, h.st]
    split
    · exact Nat.add_assoc _ _ _
    · rfl

theorem tick_lt (h : TicksCounted s t n) : t.tick.toNat < 2 ^ tickBits t.cfg := by
  rw [h.tick, h.cfg]
  exact Nat.mod_lt _ (Nat.two_pow_pos _)

/-- The tick event counts one. -/
theorem tickEvent (h : s.st.state = .running) : TicksCounted s (tickEvent s) 1 := by
  obtain ⟨cfg, -, -, -, -, -, -, -, -, -, -, -, st, -⟩ := tickEvent_same s
  exact ⟨cfg, st, by rw [tickEvent_tick h, tickWrap_add_one_toNat], tickEvent_cb_count h⟩

end TicksCounted

/-- One step of an event turn uses up the turn, and counts a tick exactly if the turn is one. -/
theorem step_of_eventTurn {s : State} {x : Turn} {rest : List Turn} (hturns : s.turns = x :: rest)
    (hx : eventTurn x = true) (hrun : s.st.state = .running) (htick : s.tick.toNat < 2 ^ tickBits s.cfg) :
    ∃ t, step s = .next t ∧ t.turns = rest ∧ TicksCounted s t (tickCount [x]) := by
  have hturn : nextTurn s = x := by rw [nextTurn, hturns]
  have hrest : (beginStep s).turns = rest := congrArg List.tail hturns
  have found : TicksCounted s (beginStep s) 0 := (TicksCounted.refl htick).keep rfl rfl rfl rfl
  rw [step, hturn]
  cases x with
  | host | rst => cases hx
  | handler l => exact ⟨_, rfl, hrest, found.keep rfl rfl rfl rfl⟩
  | sequencer =>
    obtain ⟨cfg, -, -, -, -, -, -, -, st, tick, -, -, -, -, -, turns, cb⟩ := seqStep_same (beginStep s)
    exact ⟨_, rfl, turns.trans hrest, found.keep cfg st tick (congrArg CallbackOut.count cb)⟩
  | tick =>
    obtain ⟨-, -, -, -, -, -, -, -, -, -, -, -, -, -, -, -, -, -, turns⟩ := tickEvent_same (beginStep s)
    exact ⟨_, rfl, turns.trans hrest, found.trans (.tickEvent hrun)⟩
  | uev b =>
    obtain ⟨cfg, -, -, -, -, -, -, -, -, -, -, -, st, tick, -, -, -, turns, cb⟩ := updateEvent_same b (beginStep s)
    exact ⟨_, rfl, turns.trans hrest, found.keep cfg st tick (congrArg CallbackOut.count cb)⟩
  | inputs i => exact ⟨_, rfl, hrest, found.keep rfl rfl rfl rfl⟩

/-- A run of event turns counts every tick of the list. -/
theorem run_of_eventTurns {l rest : List Turn} {s : State} (hturns : s.turns = l ++ rest)
    (hl : ∀ x ∈ l, eventTurn x = true) (hrun : s.st.state = .running) (htick : s.tick.toNat < 2 ^ tickBits s.cfg) :
    ∃ t, Sys2Proof.core.run l.length s = .next t ∧ TicksCounted s t (tickCount l) := by
  induction l generalizing s with
  | nil => exact ⟨s, rfl, .refl htick⟩
  | cons x l ih =>
    obtain ⟨u, hstep, hrest, first⟩ := step_of_eventTurn hturns (hl x List.mem_cons_self) hrun htick
    obtain ⟨t, hrun', others⟩ :=
      ih hrest (fun y hy => hl y (List.mem_cons_of_mem x hy)) (first.st.symm ▸ hrun) first.tick_lt
    have hcount : tickCount (x :: l) = tickCount [x] + tickCount l := List.countP_append (l₁ := [x])
    exact ⟨t, (core_run_succ hstep).trans hrun', hcount ▸ first.trans others⟩

/-- Settles O39, by induction on the list of turns. -/
theorem ticksCountedExactly : Obligations.TicksCountedExactly := by
  intro l rest s hturns hl hrun htick
  obtain ⟨t, ht, counted⟩ := run_of_eventTurns hturns hl hrun htick
  exact ⟨t, ht, counted.st.symm ▸ hrun, counted.tick, counted.strobes⟩

/-! ### STGET and STSET (R125, R128) -/

/-- Settles O31: the two views of one TICK. -/
theorem stgetSnapshot : Obligations.StgetSnapshot := by
  refine ⟨by decide, fun s => ⟨tickLo s, tickHi s, rfl, tickLo_toNat s, fun hw => ?wide, fun hw => ?narrow⟩⟩
  case wide => rw [tickHi_toNat, if_pos hw]
  case narrow => rw [tickHi, hw]

/-- `A1 ++ A0` as a number (R6). -/
theorem toNat_append_words (hi lo : Word) : (hi ++ lo).toNat = hi.toNat * 2 ^ 32 + lo.toNat := by
  rw [BitVec.toNat_append, ← Nat.shiftLeft_add_eq_or_of_lt lo.isLt, Nat.shiftLeft_eq]

/-- Settles O32: the write of TICK, and the increment of what it left. -/
theorem stsetThenTick : Obligations.StsetThenTick := by
  refine ⟨by decide, fun s => ⟨tickWrap s.cfg (s.ops.a1 ++ s.ops.a0), rfl, ?set, fun hrun => ?tick⟩⟩
  case set => rw [tickWrap_toNat, toNat_append_words]
  case tick =>
    have hset : (s.setTick (tickWrap s.cfg (s.ops.a1 ++ s.ops.a0))).st.state = .running := hrun
    rw [tickEvent_tick hset, State.setTick_tick, State.setTick_cfg, tickWrap_add_one_toNat, tickWrap_toNat,
      toNat_append_words, Nat.mod_add_mod]

end Sys2Proof.Machine
end

section
/-!
PROOFS. The commands of the time base (R121 to R130): the checks each one tests, its accepted form, and the arithmetic of STCALC
and STD2T; and which of them change ST_STATE (R123).
-/

namespace Sys2Proof.Machine

open Sys2Proof.Claims

/-! ### The first check that fails (R202) -/

theorem firstFailure_cons_eq_some {b : Bool} {c e : ErrCode} {l : List (Bool × ErrCode)}
    (h : firstFailure ((b, c) :: l) = some e) : (b = true ∧ e = c) ∨ (b = false ∧ firstFailure l = some e) := by
  cases b with
  | true => exact .inl ⟨rfl, (Option.some.inj h).symm⟩
  | false => exact .inr ⟨rfl, h⟩

/-- A command with one check. -/
theorem firstFailure_single_eq_some {b : Bool} {c e : ErrCode} (h : firstFailure [(b, c)] = some e) :
    b = true ∧ e = c := by
  obtain h | ⟨-, h⟩ := firstFailure_cons_eq_some h
  · exact h
  · cases h

/-! ### STCALC (R121) -/

theorem exec_stcalc_noClk {s : State} (h : s.clkValid = false) : exec .stcalc s = .next (s.setErr .noClk) := by
  simp only [exec, execStcalc, h, refuse, Bool.not_false, if_true]

theorem exec_stcalc {s : State} (h : s.clkValid = true) : exec .stcalc s =
    .next (s.setRes ⟨lowWord (reloadOf s.freqs.core.toNat s.ops.a0.toNat),
      highWord s.cfg.fixed.dataW (reloadOf s.freqs.core.toNat s.ops.a0.toNat),
      lowWord (bit (periodFits s.cfg (reloadOf s.freqs.core.toNat s.ops.a0.toNat))), s.res.r3⟩) := by
  simp only [exec, execStcalc, h, Bool.not_true, Bool.false_eq_true, if_false]

/-- R121's closed form of the rounding. -/
theorem reloadOf_eq (core period : Nat) : reloadOf core period = (2 * core * period + 1000000) / 2000000 := by
  rw [reloadOf, roundDiv, Nat.mul_assoc]

/-- A product of two words fits two words. -/
theorem word_mul_word_lt (a b : Word) : a.toNat * b.toNat < 2 ^ 64 :=
  (Nat.mul_lt_mul'' a.isLt b.isLt).trans_eq (Nat.pow_add 2 32 32).symm

theorem reloadOf_lt (core period : Word) : reloadOf core.toNat period.toNat < 2 ^ 64 := by
  have hprod := word_mul_word_lt core period
  rw [reloadOf_eq, Nat.mul_assoc]
  omega

/-- R122: the flag that a period fits, as STCALC puts it in R2. -/
theorem lowWord_periodFits {cfg : Config} (h : cfg.wf) (p : Nat) :
    lowWord (bit (periodFits cfg p)) = if 1 ≤ p ∧ p ≤ 16777215 then 1#32 else 0#32 := by
  split_ifs with hp
  · rw [(periodFits_iff h p).mpr hp]; rfl
  · rw [Bool.eq_false_of_not_eq_true (mt (periodFits_iff h p).mp hp)]; rfl

/-- Settles O29: the clock check, then R121's closed form of the reload value. -/
theorem stcalcReloadValue : Obligations.StcalcReloadValue := by
  refine ⟨by decide, fun s e _ he => ?refused, fun s r hcfg hv hr => ?accepted⟩
  case refused =>
    obtain ⟨hv, rfl⟩ := firstFailure_single_eq_some he
    exact exec_stcalc_noClk (by simpa using hv)
  case accepted =>
    obtain rfl : r = reloadOf s.freqs.core.toNat s.ops.a0.toNat := hr.trans (reloadOf_eq _ _).symm
    refine ⟨?_, reloadOf_lt _ _⟩
    rw [exec_stcalc hv, highWord_dataW hcfg, lowWord_periodFits hcfg]
    rfl

/-! ### STCFG (R124) -/

theorem exec_stcfg_stRange {s : State} (h : periodFits s.cfg s.ops.a0.toNat = false) :
    exec .stcfg s = .next (s.setErr .stRange) := by
  simp only [exec, execStcfg, h, refuse, Bool.not_false, if_true]

theorem exec_stcfg {s : State} (h : periodFits s.cfg s.ops.a0.toNat = true) :
    exec .stcfg s = .next ((s.setSt ⟨.running, BitVec.ofNat 24 s.ops.a0.toNat,
      BitVec.ofNat 24 (s.ops.a0.toNat - s.cfg.stLoadBias), s.st.cbEn, true, true, true⟩).setTick 0#64) := by
  simp only [exec, execStcfg, h, Bool.not_true, Bool.false_eq_true, if_false]

/-- A period that fits is held whole in its 24 bits. -/
theorem toNat_ofNat_period {p : Nat} (h : p ≤ 16777215) : (BitVec.ofNat 24 p).toNat = p := by
  rw [BitVec.toNat_ofNat, Nat.mod_eq_of_lt (by omega)]

/-- Settles O30: the period check, then the writes of the accepted form. -/
theorem stcfgStartsTimeBase : Obligations.StcfgStartsTimeBase := by
  refine ⟨by decide, fun s e hcfg he => ?refused, fun s hcfg hlow hhigh => ?accepted⟩
  case refused =>
    obtain ⟨hbad, rfl⟩ := firstFailure_single_eq_some he
    rw [Bool.or_eq_true, decide_eq_true_iff, decide_eq_true_iff] at hbad
    exact exec_stcfg_stRange (Bool.eq_false_of_not_eq_true (mt (periodFits_iff hcfg _).mp (by omega)))
  case accepted =>
    exact ⟨_, exec_stcfg ((periodFits_iff hcfg _).mpr ⟨hlow, hhigh⟩), rfl, toNat_ofNat_period hhigh,
      toNat_ofNat_period (by omega), rfl, rfl, rfl, rfl⟩

/-! ### STEN, STDIS and STCB (R126, R127, R129) -/

theorem exec_sten_unconfigured {s : State} (h : s.st.state = .unconfigured) :
    exec .sten s = .next (s.setErr .stState) := by
  simp only [exec, execSten, h, refuse]

theorem exec_sten {s : State} (h : s.st.state ≠ .unconfigured) : exec .sten s = .next (setRunState .running true s) := by
  cases hs : s.st.state with
  | unconfigured => exact absurd hs h
  | running | stopped => simp only [exec, execSten, hs]

theorem exec_stdis_running {s : State} (h : s.st.state = .running) :
    exec .stdis s = .next (setRunState .stopped false s) := by
  simp only [exec, execStdis, h]

theorem exec_stdis_of_ne_running {s : State} (h : s.st.state ≠ .running) : exec .stdis s = .next s := by
  cases hs : s.st.state with
  | running => exact absurd hs h
  | unconfigured | stopped => simp only [exec, execStdis, hs]

/-- Settles O33: STEN by Unconfigured or not, STDIS by Running or not. -/
theorem stenStdisToggle : Obligations.StenStdisToggle := by
  refine ⟨by decide, by decide, fun s => ⟨fun h => ⟨exec_sten_unconfigured h, ?_⟩, exec_sten, exec_stdis_running,
    fun h => ?_⟩⟩
  all_goals exact exec_stdis_of_ne_running (by rw [h]; decide)

/-- Settles O34: the flag is the CB_EN that the tick event looks at. -/
theorem stcbRegistersCallback : Obligations.StcbRegistersCallback :=
  ⟨fun _ => rfl, fun s en => ⟨s.setSt { s.st with cbEn := en }, rfl, rfl, fun hrun =>
    tickEvent_cb_count (s := s.setSt { s.st with cbEn := en }) hrun⟩⟩

/-! ### STD2T (R130) -/

theorem exec_std2t_noClk {s : State} (ms : Bool) (h : s.clkValid = false) :
    exec (.std2t ms) s = .next (s.setErr .noClk) := by
  simp only [exec, execStd2t, h, refuse, Bool.not_false, if_true]

theorem exec_std2t_stState {s : State} (ms : Bool) (hv : s.clkValid = true) (h : s.st.state = .unconfigured) :
    exec (.std2t ms) s = .next (s.setErr .stState) := by
  simp only [exec, execStd2t, hv, h, refuse, Bool.not_true, Bool.false_eq_true, if_false, if_true]

theorem exec_std2t {s : State} (ms : Bool) (hv : s.clkValid = true) (h : s.st.state ≠ .unconfigured) :
    exec (.std2t ms) s =
      .next (setR01Wide (ticksOf ms s.ops.a0.toNat s.freqs.core.toNat s.st.reload.toNat) s) := by
  simp only [exec, execStd2t, hv, h, Bool.not_true, Bool.false_eq_true, if_false]

/-- R7: the ceiling is the least integer not below the quotient. -/
theorem ceilDiv_le_iff {d : Nat} (hd : 0 < d) (n k : Nat) : ceilDiv n d ≤ k ↔ n ≤ k * d := by
  rw [ceilDiv, ← Nat.add_sub_assoc hd, ← Nat.ceilDiv_eq_add_pred_div, ceilDiv_le_iff_le_mul hd, Nat.mul_comm]

theorem unitsPerSecond_pos (ms : Bool) : 0 < unitsPerSecond ms := by cases ms <;> decide

/-- R130: `k` ticks last at least the duration exactly if they are no fewer than the tick-equivalent. -/
theorem ticksOf_le_iff {period : Nat} (hp : period ≠ 0) (ms : Bool) (duration core k : Nat) :
    ticksOf ms duration core period ≤ k ↔ duration * core ≤ k * (unitsPerSecond ms * period) := by
  rw [ticksOf, if_neg hp]
  exact ceilDiv_le_iff (Nat.mul_pos (unitsPerSecond_pos ms) (Nat.pos_of_ne_zero hp)) _ _

/-- As U × ST_RELOAD is at least 1, the quotient is at most its numerator. -/
theorem ticksOf_le_mul {period : Nat} (hp : period ≠ 0) (ms : Bool) (duration core : Nat) :
    ticksOf ms duration core period ≤ duration * core :=
  (ticksOf_le_iff hp ms duration core _).mpr
    (Nat.le_mul_of_pos_right _ (Nat.mul_pos (unitsPerSecond_pos ms) (Nat.pos_of_ne_zero hp)))

/-- Settles O35: the ceiling of R130 is the least count. -/
theorem std2tLeastTicks : Obligations.Std2tLeastTicks := by
  refine ⟨fun _ => rfl, fun ms s e _ he => ?refused, fun s ms hcfg hv hs hreload => ?accepted⟩
  case refused =>
    obtain ⟨hv, rfl⟩ | ⟨hv, he⟩ := firstFailure_cons_eq_some he
    · exact exec_std2t_noClk ms (by simpa using hv)
    · obtain ⟨hs, rfl⟩ := firstFailure_single_eq_some he
      exact exec_std2t_stState ms (by simpa using hv) (of_decide_eq_true hs)
  case accepted =>
    have hp : s.st.reload.toNat ≠ 0 := mt (BitVec.toNat_inj (y := 0#24)).mp hreload
    refine ⟨ticksOf ms s.ops.a0.toNat s.freqs.core.toNat s.st.reload.toNat, ?_, ?_, fun k => ?_⟩
    · rw [exec_std2t ms hv hs, setR01Wide, setR01_eq, highWord_dataW hcfg]
      rfl
    · exact (ticksOf_le_mul hp ms _ _).trans_lt (word_mul_word_lt _ _)
    · exact ticksOf_le_iff hp ms _ _ k

/-! ### What changes ST_STATE (R120, R123) -/

theorem eq_of_stRun_mem {cfg : Config} {i : Instr} (h : Piece.stRun ∈ mayWrite cfg i) :
    i = .stcfg ∨ i = .sten ∨ i = .stdis := by
  cases i <;> simp [mayWrite, not_mem_ofBank] at h ⊢

/-- A command that changes ST_STATE makes one of the three transitions of Table R123. -/
theorem exec_changes_stState {i : Instr} {s t : State} (h : exec i s = .next t) (hne : t.st.state ≠ s.st.state) :
    (i = .stcfg ∧ t.st.state = .running) ∨ (i = .stdis ∧ s.st.state = .running ∧ t.st.state = .stopped) ∨
    (i = .sten ∧ s.st.state = .stopped ∧ t.st.state = .running) := by
  have listed : Piece.stRun ∈ mayWrite s.cfg i := by
    by_contra hp
    exact hne (commandFootprint i s t .stRun h hp).1
  obtain ⟨e, rfl⟩ | accepted := exec_next h
  · exact absurd rfl hne
  obtain rfl | rfl | rfl := eq_of_stRun_mem listed
  · obtain ⟨-, rfl⟩ := accepted
    exact .inl ⟨rfl, rfl⟩
  · obtain ⟨hconf, rfl⟩ := accepted
    cases hs : s.st.state with
    | unconfigured => exact absurd hs hconf
    | running => exact absurd hs.symm hne
    | stopped => exact .inr (.inr ⟨rfl, rfl, rfl⟩)
  · obtain ⟨-, rfl⟩ | ⟨hrun, rfl⟩ := accepted
    · exact absurd rfl hne
    · exact .inr (.inl ⟨rfl, hrun, rfl⟩)

/-- Settles O36: of the effects of a step only a command and reset write ST_STATE. -/
theorem timeBaseTransitions : Obligations.TimeBaseTransitions := by
  intro s t h hne
  obtain ⟨u, hu, effect⟩ := step_effect h
  have hst : u.st = s.st := by obtain ⟨_, _, _, rfl⟩ := hu; rfl
  rw [← hst] at hne ⊢
  cases effect with
  | nothing h => exact absurd (h ▸ rfl) hne
  | inputs i h => exact absurd (h ▸ rfl) hne
  | write r v _ h =>
    obtain ⟨-, -, -, -, -, -, -, same, -⟩ := writeReg_same r v u
    exact absurd (h ▸ congrArg SysTick.state same) hne
  | illegalWord e h => exact absurd (h ▸ rfl) hne
  | command i runs h =>
    obtain ⟨rfl, ht⟩ | ⟨rfl, hu, ht⟩ | ⟨rfl, hu, ht⟩ := exec_changes_stState h hne
    · exact .inr (.inl ⟨runs, ht⟩)
    · exact .inr (.inr (.inl ⟨runs, hu, ht⟩))
    · exact .inr (.inr (.inr ⟨runs, hu, ht⟩))
  | sequencer _ h =>
    obtain ⟨-, -, -, -, -, -, -, -, same, -⟩ := seqStep_same u
    exact absurd (h ▸ congrArg SysTick.state same) hne
  | tick _ h =>
    obtain ⟨-, -, -, -, -, -, -, -, -, -, -, -, same, -⟩ := tickEvent_same u
    exact absurd (h ▸ congrArg SysTick.state same) hne
  | update b _ h => exact absurd (h ▸ rfl) hne
  | reset turn h => exact .inl ⟨turn, h ▸ rfl⟩

end Sys2Proof.Machine
end

section
/-!
PROOFS. The timer clock and the prescaler (R151, R152), and TMPSC (R153): a rounded quotient by its two bounds, and the three
ranges of the prescaler function.
-/

namespace Sys2Proof.Machine

open Sys2Proof.Claims

/-! ### Rounding half up (R7) -/

theorem mul_roundDiv_le (n d : Nat) : 2 * d * roundDiv n d ≤ 2 * n + d := Nat.mul_div_le _ _

theorem lt_mul_roundDiv_succ (n : Nat) {d : Nat} (hd : 0 < d) : 2 * n + d < 2 * d * (roundDiv n d + 1) :=
  Nat.lt_mul_div_succ _ (by omega)

/-! ### The prescaler function (R152) -/

section Psc

variable {cfg : Config} {f target a : Nat} (hcfg : cfg.wf)
include hcfg

theorem pscOf_clampedLow (h : roundDiv f (target * (a + 1)) = 0) : pscOf cfg f target a = ⟨0, true, false⟩ := by
  rw [pscOf_eq hcfg, if_pos h]

theorem pscOf_inRange (h : 1 ≤ roundDiv f (target * (a + 1))) (h' : roundDiv f (target * (a + 1)) ≤ 65536) :
    pscOf cfg f target a = ⟨roundDiv f (target * (a + 1)) - 1, false, false⟩ := by
  rw [pscOf_eq hcfg, if_neg (by omega), if_neg (by omega)]

theorem pscOf_clampedHigh (h : 65536 < roundDiv f (target * (a + 1))) : pscOf cfg f target a = ⟨65535, false, true⟩ := by
  rw [pscOf_eq hcfg, if_neg (by omega), if_pos (by omega)]

theorem pscOf_value_le : (pscOf cfg f target a).value ≤ 65535 := by
  rw [pscOf_eq hcfg]
  split_ifs with hlow hhigh
  · exact Nat.zero_le _
  · exact Nat.le_refl _
  · exact Nat.le_of_not_lt hhigh

end Psc

/-- Settles O40: the witness is the rounded quotient, which its bounds fix. -/
theorem prescalerNearestClamped : Obligations.PrescalerNearestClamped := by
  intro cfg f target a hcfg htarget _
  have hd : 0 < target * (a + 1) := Nat.mul_pos htarget a.succ_pos
  exact ⟨roundDiv f (target * (a + 1)), mul_roundDiv_le _ _, lt_mul_roundDiv_succ _ hd, pscOf_clampedLow hcfg,
    pscOf_inRange hcfg, pscOf_clampedHigh hcfg⟩

/-! ### The timer clock (R151) -/

/-- Every bank hangs on APB1 (Table R5, `tim_bus`). -/
theorem fTim_eq {s : State} (hcfg : s.cfg.wf) (t : TimId) :
    fTim s t = if ppreDiv s.cfg (s.img.cfgr.extractLsb' 8 3) = 1 then s.freqs.apb1.toNat else 2 * s.freqs.apb1.toNat := by
  unfold fTim
  rw [timBus_get hcfg]
  rfl

/-- Table R91 divides by 1 exactly below PPRE = 4. -/
theorem ppreDiv_tableR91_eq_one_iff {cfg : Config} (h : cfg.sel = .tableR91) (v : BitVec 3) :
    ppreDiv cfg v = 1 ↔ v.toNat < 4 := by
  rw [ppreDiv_tableR91 h]
  revert v
  decide

/-- F_APB1 is 0 before the clock is configured, and rated after (R24, R95). -/
theorem EngineInv.apb1_le {s : State} (h : EngineInv s) : s.freqs.apb1.toNat ≤ 36000000 := by
  cases hv : s.clkValid with
  | false => rw [h.clock.notYet hv]; exact Nat.zero_le _
  | true =>
    obtain ⟨-, -, hapb1, -⟩ := h.clock.rated hv
    exact hapb1

/-- Settles O41: the bus is APB1, Table R91 says which selectors divide, and the invariant bounds F_APB1 by 36 MHz. -/
theorem timerClockFromApb1 : Obligations.TimerClockFromApb1 := by
  intro s t hcfg
  refine ⟨fTim_eq hcfg t, fun hsel => ?table, fun hinv => ?bound⟩
  case table => simp only [fTim_eq hcfg, ppreDiv_tableR91_eq_one_iff hsel, BitVec.extractLsb'_toNat,
    Nat.shiftRight_eq_div_pow, Nat.reducePow]
  case bound =>
    have hapb1 := hinv.apb1_le
    rw [fTim_eq hcfg]
    split_ifs <;> omega

/-! ### TMPSC (R153) -/

theorem exec_tmpsc_div0 {s : State} (h : s.ops.a1 = 0#32) : exec .tmpsc s = .next (s.setErr .div0) := by
  simp only [exec, execTmpsc, h, refuse, if_true]

theorem exec_tmpsc {s : State} (h : s.ops.a1 ≠ 0#32) : exec .tmpsc s =
    .next (setR01 (lowWord (pscOf s.cfg s.ops.a0.toNat s.ops.a1.toNat (clampTo s.cfg.fixed.arrW s.ops.a2)).value)
      (clampReport (pscOf s.cfg s.ops.a0.toNat s.ops.a1.toNat (clampTo s.cfg.fixed.arrW s.ops.a2)).lo
        (pscOf s.cfg s.ops.a0.toNat s.ops.a1.toNat (clampTo s.cfg.fixed.arrW s.ops.a2)).hi
        (exceeds s.cfg.fixed.arrW s.ops.a2)) s) := by
  simp only [exec, execTmpsc, h, if_false]

theorem clampReport_toNat : ∀ b0 b1 b2 : Bool, (clampReport b0 b1 b2).toNat =
    (if b0 then 1 else 0) + (if b1 then 2 else 0) + (if b2 then 4 else 0) := by decide

theorem exceeds_arrW_eq {cfg : Config} (h : cfg.wf) (a : Word) : exceeds cfg.fixed.arrW a = decide (65535 < a.toNat) :=
  Bool.eq_iff_iff.mpr ((exceeds_arrW h a).trans decide_eq_true_iff.symm)

theorem eq_zero_of_toNat_check {a : Word} (h : decide (a.toNat = 0) = true) : a = 0#32 :=
  BitVec.eq_of_toNat_eq (of_decide_eq_true h)

/-- Settles O42: the divisor check, then the prescaler of the clamped operands and its report as a number. -/
theorem tmpscPrescaler : Obligations.TmpscPrescaler := by
  refine ⟨by decide, fun s e _ he => ?refused, fun s hcfg h1 r rep hr hrep => ?accepted⟩
  case refused =>
    obtain ⟨h1, rfl⟩ := firstFailure_single_eq_some he
    exact exec_tmpsc_div0 (eq_zero_of_toNat_check h1)
  case accepted =>
    obtain rfl : rep = clampReport r.lo r.hi (decide (65535 < s.ops.a2.toNat)) :=
      BitVec.eq_of_toNat_eq (by simp only [hrep, clampReport_toNat, decide_eq_true_eq])
    rw [exec_tmpsc h1, clampTo_arrW hcfg, exceeds_arrW_eq hcfg, ← hr]
    rfl

end Sys2Proof.Machine
end

section
/-!
PROOFS. The commands that name a bank and write one thing of it (R156 to R161): the TID check they share, and the writes of each
on a bank.
-/

namespace Sys2Proof.Machine

open Sys2Proof.Claims

/-! ### The TID check (R73, R202) -/

theorem timOf_eq_none_of_check {cfg : Config} (hcfg : cfg.wf) {tid : BitVec 2} (h : decide (tid = 3#2) = true) :
    timOf cfg tid = none :=
  (timOf_none_iff hcfg tid).mpr (of_decide_eq_true h)

theorem exists_timOf_of_check {cfg : Config} (hcfg : cfg.wf) {tid : BitVec 2} (h : decide (tid = 3#2) = false) :
    ∃ b, timOf cfg tid = some b :=
  Option.ne_none_iff_exists'.mp (mt (timOf_none_iff hcfg tid).mp (of_decide_eq_false h))

/-- A command whose only check is its TID. -/
theorem refusedByChecks_of_withBank {i : Instr} {tid : BitVec 2}
    {k : State → TimId → Host.Outcome State Fault Refusal} (hchecks : ∀ s, checks i s = [(decide (tid = 3#2), .timId)])
    (hexec : ∀ s, exec i s = withBank tid s (k s)) : RefusedByChecks i := by
  intro s e hcfg he
  rw [hchecks] at he
  obtain ⟨htid, rfl⟩ := firstFailure_single_eq_some he
  rw [hexec, withBank_none (timOf_eq_none_of_check hcfg htid)]

theorem bankUnconfigured_eq {s : State} {tid : BitVec 2} {b : TimId} (h : timOf s.cfg tid = some b) :
    bankUnconfigured s tid = !(s.tim.get b).cfgd := by
  rw [bankUnconfigured, h]
  rfl

/-! ### TMEN (R156) -/

theorem exec_tmen_noTim {s : State} {tid : BitVec 2} {b : TimId} (hb : timOf s.cfg tid = some b)
    (hc : (s.tim.get b).cfgd = false) : exec (.tmen tid) s = .next (s.setErr .noTim) := by
  simp only [exec, execTmen, withBank_some hb, hc, refuse, Bool.not_false, if_true]

theorem exec_tmen {s : State} {tid : BitVec 2} {b : TimId} (hb : timOf s.cfg tid = some b)
    (hc : (s.tim.get b).cfgd = true) : exec (.tmen tid) s = .next (updTim b (fun x => { x with en := true }) s) := by
  simp only [exec, execTmen, withBank_some hb, hc, Bool.not_true, Bool.false_eq_true, if_false]

theorem tmen_refusedByChecks (tid : BitVec 2) : RefusedByChecks (.tmen tid) := by
  intro s e hcfg he
  obtain ⟨htid, rfl⟩ | ⟨htid, he⟩ := firstFailure_cons_eq_some he
  · exact withBank_none (timOf_eq_none_of_check hcfg htid) _
  obtain ⟨b, hb⟩ := exists_timOf_of_check hcfg htid
  obtain ⟨hbank, rfl⟩ := firstFailure_single_eq_some he
  rw [bankUnconfigured_eq hb, Bool.not_eq_true'] at hbank
  exact exec_tmen_noTim hb hbank

/-! ### TMDIS and TMRST (R157, R158) -/

theorem exec_tmdis {s : State} {tid : BitVec 2} {b : TimId} (hb : timOf s.cfg tid = some b) :
    exec (.tmdis tid) s = .next (updTim b (fun x => { x with en := false, cntInit := 0#16 }) s) :=
  withBank_some hb _

/-- Every channel of a bank at reset (Table R36). -/
theorem tabulate_reset (b : TimId) : (PerChan.tabulate fun _ => Channel.reset) = State.reset.pwm.get b :=
  PerChan.ext_get fun c => by rw [PerChan.get_tabulate, reset_pwm_get]

theorem exec_tmrst {s : State} {tid : BitVec 2} {b : TimId} (hb : timOf s.cfg tid = some b) :
    exec (.tmrst tid) s = .next (((s.setTim (s.tim.set b (State.reset.tim.get b))).setPwm
      (s.pwm.set b (State.reset.pwm.get b))).setNvicEn (s.nvicEn.set b false)) := by
  rw [reset_tim_get, ← tabulate_reset]
  exact withBank_some hb _

/-- Settles O45: the TID check, TMEN's check of the bank, and what each writes on a bank. -/
theorem timerStartStopReset : Obligations.TimerStartStopReset := by
  refine ⟨fun _ => ⟨rfl, rfl, rfl⟩, fun tid => ⟨tmen_refusedByChecks tid, ?_, ?_⟩,
    fun s tid b hb => ⟨exec_tmen hb, exec_tmdis hb, exec_tmrst hb⟩⟩
  all_goals exact refusedByChecks_of_withBank (fun _ => rfl) (fun _ => rfl)

/-! ### TMIRQ, TMCLR and TMACK (R159 to R161) -/

theorem lowWord_bit (x : Bool) : lowWord (bit x) = if x then 1#32 else 0#32 := by
  cases x <;> rfl

theorem exec_tmirq {s : State} {tid : BitVec 2} {b : TimId} (hb : timOf s.cfg tid = some b) :
    exec (.tmirq tid) s =
      .next (s.setRes ⟨if (s.tim.get b).uif then 1#32 else 0#32, s.res.r1, s.res.r2, s.res.r3⟩) := by
  rw [← lowWord_bit]
  exact withBank_some hb _

/-- Settles O46: the TID check, and on a bank the flag read or cleared. -/
theorem updateFlagCommands : Obligations.UpdateFlagCommands := by
  refine ⟨fun _ => ⟨rfl, rfl, rfl⟩, fun tid => ⟨?_, ?_, ?_⟩,
    fun s tid b hb => ⟨exec_tmirq hb, withBank_some hb _, withBank_some hb _⟩⟩
  all_goals exact refusedByChecks_of_withBank (fun _ => rfl) (fun _ => rfl)

end Sys2Proof.Machine
end

section
/-!
PROOFS. TMCFG (R154): its five checks in order, the bank and the CLAMP bits it leaves, and that it and PWCFG done twice are done
once (R155, R184).
-/

namespace Sys2Proof.Machine

open Sys2Proof.Claims

/-! ### Checks that pass, and CHSEL (R80, R202) -/

theorem firstFailure_cons_eq_none_iff {b : Bool} {c : ErrCode} {l : List (Bool × ErrCode)} :
    firstFailure ((b, c) :: l) = none ↔ b = false ∧ firstFailure l = none := by
  cases b <;> simp [firstFailure]

theorem chmask_of_recognised {cfg : Config} (hcfg : cfg.wf) {sel : BitVec 8} (h : recognised sel = true) :
    chmask cfg sel = some (sel.extractLsb' 0 4) := by
  rw [chmask_eq hcfg]
  revert sel
  decide

theorem chmask_of_not_recognised {cfg : Config} (hcfg : cfg.wf) {sel : BitVec 8} (h : recognised sel = false) :
    chmask cfg sel = none := by
  rw [chmask_eq hcfg]
  revert sel
  decide

/-! ### What TMCFG writes (Pseudocode R154) -/

/-- The prescaler an accepted TMCFG derives for bank `b`. -/
def tmcfgPsc (s : State) (b : TimId) : PscResult :=
  pscOf s.cfg (fTim s b) s.ops.a0.toNat (clampTo s.cfg.fixed.arrW s.ops.a1)

/-- The bank an accepted TMCFG leaves. -/
def tmcfgTimer (s : State) (b : TimId) (m : BitVec 4) (ie opm arpe : Bool) (d : Dir) : Timer :=
  configuredTimer m ie opm arpe d s.ops.a0 (toHalf (tmcfgPsc s b).value) (toHalf (clampTo s.cfg.fixed.arrW s.ops.a1))
    (toHalf (clampTo s.cfg.fixed.cntW s.ops.a2)) (s.tim.get b)

/-- The clamps that happen in an accepted TMCFG. -/
def tmcfgClamp (s : State) (b : TimId) : BitVec 6 :=
  timerClampBits (tmcfgPsc s b).lo (tmcfgPsc s b).hi (exceeds s.cfg.fixed.arrW s.ops.a1) (exceeds s.cfg.fixed.cntW s.ops.a2)

theorem tmcfgAccept_eq (s : State) (b : TimId) (m : BitVec 4) (ie opm arpe : Bool) (d : Dir) :
    tmcfgAccept b m ie opm arpe d s = ((s.setTim (s.tim.set b (tmcfgTimer s b m ie opm arpe d))).setNvicEn
      (if ie then s.nvicEn.set b true else s.nvicEn)).setClamp (s.clamp ||| tmcfgClamp s b) := by
  cases ie <;> rfl

section

variable (s : State) (b : TimId) (m : BitVec 4) (ie opm arpe : Bool) (d : Dir)

@[simp] theorem tmcfgAccept_cfg : (tmcfgAccept b m ie opm arpe d s).cfg = s.cfg := by rw [tmcfgAccept_eq]; rfl
@[simp] theorem tmcfgAccept_ops : (tmcfgAccept b m ie opm arpe d s).ops = s.ops := by rw [tmcfgAccept_eq]; rfl
@[simp] theorem tmcfgAccept_clkValid : (tmcfgAccept b m ie opm arpe d s).clkValid = s.clkValid := by
  rw [tmcfgAccept_eq]; rfl

end

theorem timerClampBits_bits : ∀ lo hi arr cnt : Bool,
    (timerClampBits lo hi arr cnt).getLsbD 0 = lo ∧ (timerClampBits lo hi arr cnt).getLsbD 1 = hi ∧
    (timerClampBits lo hi arr cnt).getLsbD 2 = arr ∧ (timerClampBits lo hi arr cnt).getLsbD 3 = cnt ∧
    (timerClampBits lo hi arr cnt).getLsbD 4 = false ∧ (timerClampBits lo hi arr cnt).getLsbD 5 = false := by decide

theorem exceeds_cntW_eq {cfg : Config} (h : cfg.wf) (a : Word) : exceeds cfg.fixed.cntW a = decide (65535 < a.toNat) :=
  Bool.eq_iff_iff.mpr ((exceeds_cntW h a).trans decide_eq_true_iff.symm)

/-- The clamps that happen, bit by bit (R19). -/
theorem tmcfgClamp_bits {s : State} (hcfg : s.cfg.wf) (b : TimId) :
    (tmcfgClamp s b).getLsbD 0 = (tmcfgPsc s b).lo ∧ (tmcfgClamp s b).getLsbD 1 = (tmcfgPsc s b).hi ∧
    (tmcfgClamp s b).getLsbD 2 = decide (65535 < s.ops.a1.toNat) ∧
    (tmcfgClamp s b).getLsbD 3 = decide (65535 < s.ops.a2.toNat) ∧
    (tmcfgClamp s b).getLsbD 4 = false ∧ (tmcfgClamp s b).getLsbD 5 = false := by
  rw [tmcfgClamp, exceeds_arrW_eq hcfg, exceeds_cntW_eq hcfg]
  exact timerClampBits_bits _ _ _ _

theorem toHalf_toNat {n : Nat} (h : n ≤ 65535) : (toHalf n).toNat = n := by
  rw [toHalf, BitVec.toNat_ofNat, Nat.mod_eq_of_lt (by omega)]

/-- A clamped operand is held whole in its 16 bits. -/
theorem toHalf_min_toNat (n : Nat) : (toHalf (min n 65535)).toNat = min n 65535 := toHalf_toNat (Nat.min_le_right _ _)

theorem dirOf_code {dir : BitVec 2} {d : Dir} (h : dirOf dir = some d) : d.code = dir := by
  revert dir
  cases d <;> decide

/-! ### TMCFG check by check (R154) -/

section Tmcfg

variable {s : State} {sel : BitVec 8} {ie opm arpe : Bool} {dir tid : BitVec 2} {d : Dir} {b : TimId} {m : BitVec 4}

theorem exec_tmcfg_field (hd : dirOf dir = none) :
    exec (.tmcfg sel ie opm arpe dir tid) s = .next (s.setErr .field) := by
  simp only [exec, execTmcfg, hd, refuse]

theorem exec_tmcfg_timId (hd : dirOf dir = some d) (hb : timOf s.cfg tid = none) :
    exec (.tmcfg sel ie opm arpe dir tid) s = .next (s.setErr .timId) := by
  simp only [exec, execTmcfg, hd, withBank_none hb]

theorem exec_tmcfg_chSel (hd : dirOf dir = some d) (hb : timOf s.cfg tid = some b) (hm : chmask s.cfg sel = none) :
    exec (.tmcfg sel ie opm arpe dir tid) s = .next (s.setErr .chSel) := by
  simp only [exec, execTmcfg, hd, withBank_some hb, withChannels_none hm]

theorem exec_tmcfg_noClk (hd : dirOf dir = some d) (hb : timOf s.cfg tid = some b) (hm : chmask s.cfg sel = some m)
    (hv : s.clkValid = false) : exec (.tmcfg sel ie opm arpe dir tid) s = .next (s.setErr .noClk) := by
  simp only [exec, execTmcfg, hd, withBank_some hb, withChannels_some hm, hv, refuse, Bool.not_false, if_true]

theorem exec_tmcfg_div0 (hd : dirOf dir = some d) (hb : timOf s.cfg tid = some b) (hm : chmask s.cfg sel = some m)
    (hv : s.clkValid = true) (h0 : s.ops.a0 = 0#32) :
    exec (.tmcfg sel ie opm arpe dir tid) s = .next (s.setErr .div0) := by
  simp only [exec, execTmcfg, hd, withBank_some hb, withChannels_some hm, hv, h0, refuse, Bool.not_true,
    Bool.false_eq_true, if_false, if_true]

theorem exec_tmcfg (hd : dirOf dir = some d) (hb : timOf s.cfg tid = some b) (hm : chmask s.cfg sel = some m)
    (hv : s.clkValid = true) (h0 : s.ops.a0 ≠ 0#32) :
    exec (.tmcfg sel ie opm arpe dir tid) s = .next (tmcfgAccept b m ie opm arpe d s) := by
  simp only [exec, execTmcfg, hd, withBank_some hb, withChannels_some hm, hv, h0, Bool.not_true, Bool.false_eq_true,
    if_false]

theorem exists_dirOf_of_check (h : decide (dir = 3#2) = false) : ∃ d, dirOf dir = some d :=
  Option.ne_none_iff_exists'.mp (mt (dirOf_none_iff dir).mp (of_decide_eq_false h))

variable (sel ie opm arpe dir tid) in
theorem tmcfg_refusedByChecks : RefusedByChecks (.tmcfg sel ie opm arpe dir tid) := by
  intro s e hcfg he
  obtain ⟨hdir, rfl⟩ | ⟨hdir, he⟩ := firstFailure_cons_eq_some he
  · exact exec_tmcfg_field ((dirOf_none_iff dir).mpr (of_decide_eq_true hdir))
  obtain ⟨d, hd⟩ := exists_dirOf_of_check hdir
  obtain ⟨htid, rfl⟩ | ⟨htid, he⟩ := firstFailure_cons_eq_some he
  · exact exec_tmcfg_timId hd (timOf_eq_none_of_check hcfg htid)
  obtain ⟨b, hb⟩ := exists_timOf_of_check hcfg htid
  obtain ⟨hsel, rfl⟩ | ⟨hsel, he⟩ := firstFailure_cons_eq_some he
  · exact exec_tmcfg_chSel hd hb (chmask_of_not_recognised hcfg (by simpa using hsel))
  have hm := chmask_of_recognised hcfg (by simpa using hsel)
  obtain ⟨hv, rfl⟩ | ⟨hv, he⟩ := firstFailure_cons_eq_some he
  · exact exec_tmcfg_noClk hd hb hm (by simpa using hv)
  obtain ⟨h0, rfl⟩ := firstFailure_single_eq_some he
  exact exec_tmcfg_div0 hd hb hm (by simpa using hv) (eq_zero_of_toNat_check h0)

/-- The accepted form, from the checks. -/
theorem exec_tmcfg_of_passes (hcfg : s.cfg.wf) (h : Passes (.tmcfg sel ie opm arpe dir tid) s)
    (hb : timOf s.cfg tid = some b) : ∃ d, dirOf dir = some d ∧
      exec (.tmcfg sel ie opm arpe dir tid) s = .next (tmcfgAccept b (sel.extractLsb' 0 4) ie opm arpe d s) := by
  simp only [Passes, checks, firstFailure_cons_eq_none_iff] at h
  obtain ⟨hdir, -, hsel, hv, h0, -⟩ := h
  obtain ⟨d, hd⟩ := exists_dirOf_of_check hdir
  have hm := chmask_of_recognised hcfg (by simpa using hsel)
  have hfreq : s.ops.a0 ≠ 0#32 := fun h => of_decide_eq_false h0 (congrArg BitVec.toNat h)
  exact ⟨d, hd, exec_tmcfg hd hb hm (by simpa using hv) hfreq⟩

end Tmcfg

/-- Settles O43: the five checks in order, then the fields of the bank and the CLAMP bits one by one. -/
theorem tmcfgConfiguresBank : Obligations.TmcfgConfiguresBank := by
  refine ⟨fun _ _ _ _ _ _ => rfl, tmcfg_refusedByChecks, fun s sel ie opm arpe dir tid b a r hcfg hpass hb ha hr => ?_⟩
  obtain ⟨d, hd, hexec⟩ := exec_tmcfg_of_passes hcfg hpass hb
  obtain rfl : r = tmcfgPsc s b := by rw [hr, ha, tmcfgPsc, fTim_eq hcfg, clampTo_arrW hcfg]
  obtain ⟨hlo, hhi, harr, hcnt, h4, h5⟩ := tmcfgClamp_bits hcfg b
  rw [tmcfgAccept_eq] at hexec
  refine ⟨_, tmcfgTimer s b (sel.extractLsb' 0 4) ie opm arpe d, hexec, rfl, rfl, rfl, rfl, dirOf_code hd, rfl, rfl,
    rfl, rfl, rfl, toHalf_toNat (pscOf_value_le hcfg), ?arrPre, rfl, ?cntInit, ?clamp⟩
  case arrPre =>
    rw [ha, ← toHalf_min_toNat, ← clampTo_arrW hcfg]
    rfl
  case cntInit =>
    rw [← toHalf_min_toNat, ← clampTo_cntW hcfg]
    rfl
  case clamp =>
    simp only [State.setClamp_clamp, BitVec.getLsbD_or, hlo, hhi, harr, hcnt, h4, h5, Bool.or_false, and_self]

/-! ### The same command twice (R155, R184) -/

/-- A refusal that does not look at ERR refuses again, with the same code. -/
theorem exec_again_of_refused {i : Instr} {s t : State} {e : ErrCode} (h : exec i s = .next t)
    (hrefused : ∀ x, exec i (s.setErr x) = .next (s.setErr e)) : exec i t = .next t := by
  obtain rfl : s.setErr e = t := Host.Outcome.next.inj ((hrefused s.err).symm.trans h)
  exact hrefused e

theorem configuredTimer_idem (m : BitVec 4) (ie opm arpe : Bool) (d : Dir) (freq : Word) (psc arr cnt : Half) (x : Timer) :
    configuredTimer m ie opm arpe d freq psc arr cnt (configuredTimer m ie opm arpe d freq psc arr cnt x) =
      configuredTimer m ie opm arpe d freq psc arr cnt x := by
  cases arpe <;> rfl

/-- All that TMCFG reads besides its own bank, NVIC_EN and CLAMP it does not write. -/
theorem tmcfgAccept_idem (s : State) (b : TimId) (m : BitVec 4) (ie opm arpe : Bool) (d : Dir) :
    tmcfgAccept b m ie opm arpe d (tmcfgAccept b m ie opm arpe d s) = tmcfgAccept b m ie opm arpe d s := by
  rw [tmcfgAccept_eq s]
  set x := tmcfgTimer s b m ie opm arpe d with hx
  set n := if ie then s.nvicEn.set b true else s.nvicEn
  set t := ((s.setTim (s.tim.set b x)).setNvicEn n).setClamp (s.clamp ||| tmcfgClamp s b)
  have htim : t.tim.set b (tmcfgTimer t b m ie opm arpe d) = s.tim.set b x := by
    have hbank : t.tim.get b = x := PerTimer.get_set_self _ _ _
    rw [tmcfgTimer, hbank, hx]
    exact (PerTimer.set_set _ _ _ _).trans (congrArg _ (configuredTimer_idem ..))
  have hnvic : (if ie then t.nvicEn.set b true else t.nvicEn) = n := by
    cases ie
    · rfl
    · exact PerTimer.set_set _ _ _ _
  have hclamp : t.clamp ||| tmcfgClamp t b = s.clamp ||| tmcfgClamp s b := by
    change (s.clamp ||| tmcfgClamp s b) ||| tmcfgClamp s b = _
    rw [BitVec.or_assoc, BitVec.or_self]
  rw [tmcfgAccept_eq t, htim, hnvic, hclamp]
  rfl

theorem tmcfg_twice {sel : BitVec 8} {ie opm arpe : Bool} {dir tid : BitVec 2} {s t : State}
    (h : exec (.tmcfg sel ie opm arpe dir tid) s = .next t) : exec (.tmcfg sel ie opm arpe dir tid) t = .next t := by
  cases hd : dirOf dir with
  | none => exact exec_again_of_refused h fun x => exec_tmcfg_field (s := s.setErr x) hd
  | some d =>
  cases hb : timOf s.cfg tid with
  | none => exact exec_again_of_refused h fun x => exec_tmcfg_timId (s := s.setErr x) hd hb
  | some b =>
  cases hm : chmask s.cfg sel with
  | none => exact exec_again_of_refused h fun x => exec_tmcfg_chSel (s := s.setErr x) hd hb hm
  | some m =>
  cases hv : s.clkValid with
  | false => exact exec_again_of_refused h fun x => exec_tmcfg_noClk (s := s.setErr x) hd hb hm hv
  | true =>
  by_cases h0 : s.ops.a0 = 0#32
  · exact exec_again_of_refused h fun x => exec_tmcfg_div0 (s := s.setErr x) hd hb hm hv h0
  · obtain rfl := Host.Outcome.next.inj ((exec_tmcfg hd hb hm hv h0).symm.trans h)
    exact (exec_tmcfg hd (by simpa using hb) (by simpa using hm) (by simpa using hv) (by simpa using h0)).trans
      (congrArg Host.Outcome.next (tmcfgAccept_idem s b m ie opm arpe d))

/-! ### PWCFG check by check (R184) -/

section Pwcfg

variable {s : State} {sel : BitVec 8} {pe pol inv : Bool} {tid : BitVec 2} {b : TimId} {m : BitVec 4}

/-- A channel an accepted PWCFG leaves (Pseudocode R184). -/
def pwcfgChannel (s : State) (b : TimId) (pe pol inv : Bool) (ch : Channel) : Channel :=
  writeCompare (compareOf s b) pe
    { ch with inv := inv, pol := pol, pe := pe, duty := BitVec.ofNat 7 (dutyOf s), cfgd := true }

theorem exec_pwcfg_timId (hb : timOf s.cfg tid = none) :
    exec (.pwcfg sel pe pol inv tid) s = .next (s.setErr .timId) := withBank_none hb _

theorem exec_pwcfg_chSel (hb : timOf s.cfg tid = some b) (hm : chmask s.cfg sel = none) :
    exec (.pwcfg sel pe pol inv tid) s = .next (s.setErr .chSel) := by
  simp only [exec, execPwcfg, withBank_some hb, withChannels_none hm]

theorem exec_pwcfg_noTim (hb : timOf s.cfg tid = some b) (hm : chmask s.cfg sel = some m)
    (hc : (s.tim.get b).cfgd = false) : exec (.pwcfg sel pe pol inv tid) s = .next (s.setErr .noTim) := by
  simp only [exec, execPwcfg, withBank_some hb, withChannels_some hm, hc, refuse, Bool.not_false, if_true]

theorem exec_pwcfg (hb : timOf s.cfg tid = some b) (hm : chmask s.cfg sel = some m) (hc : (s.tim.get b).cfgd = true) :
    exec (.pwcfg sel pe pol inv tid) s =
      .next (addClamp (dutyCommitClamp s b) (updChannels b m (pwcfgChannel s b pe pol inv) s)) := by
  simp only [exec, execPwcfg, withBank_some hb, withChannels_some hm, hc, Bool.not_true, Bool.false_eq_true, if_false]
  rfl

end Pwcfg

theorem pwcfgChannel_idem (s : State) (b : TimId) (pe pol inv : Bool) (ch : Channel) :
    pwcfgChannel s b pe pol inv (pwcfgChannel s b pe pol inv ch) = pwcfgChannel s b pe pol inv ch := by
  cases pe <;> rfl

theorem updChannels_idem (b : TimId) (m : BitVec 4) {f : Channel → Channel} (hf : ∀ ch, f (f ch) = f ch) (s : State) :
    updChannels b m f (updChannels b m f s) = updChannels b m f s := by
  obtain ⟨honly, hbank, hothers⟩ := updChannels_spec b m f (updChannels b m f s)
  obtain ⟨-, hfirst, -⟩ := updChannels_spec b m f s
  have hpwm : (updChannels b m f (updChannels b m f s)).pwm = (updChannels b m f s).pwm := by
    refine PerTimer.ext_get fun u => ?_
    by_cases hu : u = b
    · subst hu
      refine PerChan.ext_get fun c => ?_
      rw [hbank, hfirst]
      split_ifs
      · exact hf _
      · rfl
    · exact hothers u hu
  rw [honly, hpwm]
  rfl

theorem addClamp_idem (k : BitVec 6) (s : State) : addClamp k (addClamp k s) = addClamp k s := by
  rw [addClamp_eq, addClamp_eq, State.setClamp_setClamp, State.setClamp_clamp, BitVec.or_assoc, BitVec.or_self]

theorem pwcfg_twice {sel : BitVec 8} {pe pol inv : Bool} {tid : BitVec 2} {s t : State}
    (h : exec (.pwcfg sel pe pol inv tid) s = .next t) : exec (.pwcfg sel pe pol inv tid) t = .next t := by
  cases hb : timOf s.cfg tid with
  | none => exact exec_again_of_refused h fun x => exec_pwcfg_timId (s := s.setErr x) hb
  | some b =>
  cases hm : chmask s.cfg sel with
  | none => exact exec_again_of_refused h fun x => exec_pwcfg_chSel (s := s.setErr x) hb hm
  | some m =>
  cases hc : (s.tim.get b).cfgd with
  | false => exact exec_again_of_refused h fun x => exec_pwcfg_noTim (s := s.setErr x) hb hm hc
  | true =>
    obtain rfl := Host.Outcome.next.inj ((exec_pwcfg hb hm hc).symm.trans h)
    set k := dutyCommitClamp s b
    set f := pwcfgChannel s b pe pol inv
    calc exec (.pwcfg sel pe pol inv tid) (addClamp k (updChannels b m f s))
        = .next (addClamp k (updChannels b m f (addClamp k (updChannels b m f s)))) := exec_pwcfg hb hm hc
      _ = .next (addClamp k (addClamp k (updChannels b m f (updChannels b m f s)))) := rfl
      _ = .next (addClamp k (updChannels b m f s)) := by
        rw [updChannels_idem b m (pwcfgChannel_idem s b pe pol inv), addClamp_idem]

/-- Settles O44: what is refused is refused again by the same check, and what each command writes it writes again. -/
theorem configuringTwiceIsOnce : Obligations.ConfiguringTwiceIsOnce :=
  ⟨fun _ _ _ _ _ _ _ _ => tmcfg_twice, fun _ _ _ _ _ _ _ => pwcfg_twice⟩

end Sys2Proof.Machine
end

section
/-!
PROOFS. The duty clamp and the compare function (R181, R182), each by the range its argument lies in, and PWCCR (R183).
-/

namespace Sys2Proof.Machine

/-! ### The duty operand and its clamp (R181, R188) -/

/-- `sext_32` by the sign bit. -/
theorem dutyOperand_eq (w : Word) :
    dutyOperand w = if w.toNat < 2 ^ 31 then (w.toNat : Int) else (w.toNat : Int) - 2 ^ 32 := by
  rw [dutyOperand, BitVec.toInt_eq_toNat_cond]
  split_ifs <;> omega

section DutyClamp

variable {cfg : Config} {d : Int}

theorem dutyClamp_below (h : d < cfg.dutyFloor) : dutyClamp cfg d = cfg.dutyFloor := if_pos h

theorem dutyClamp_above (hfloor : cfg.dutyFloor ≤ 100) (h : 100 < d) : dutyClamp cfg d = 100 := by
  rw [dutyClamp, if_neg (by omega), if_pos h]

theorem dutyClamp_inRange (hlow : (cfg.dutyFloor : Int) ≤ d) (hhigh : d ≤ 100) : (dutyClamp cfg d : Int) = d := by
  rw [dutyClamp, if_neg (by omega), if_neg (by omega)]
  omega

theorem dutyClamped_iff (hfloor : cfg.dutyFloor ≤ 100) :
    dutyClamped cfg d = true ↔ d < cfg.dutyFloor ∨ 100 < d := by
  rw [dutyClamped, decide_eq_true_iff]
  obtain hlow | hlow := lt_or_ge d cfg.dutyFloor
  · rw [dutyClamp_below hlow]
    omega
  obtain hhigh | hhigh := lt_or_ge 100 d
  · rw [dutyClamp_above hfloor hhigh]
    omega
  · have hsame := dutyClamp_inRange hlow hhigh
    omega

end DutyClamp

/-- Settles O49: the operand by its sign bit, then the clamp below, above and between the bounds. -/
theorem dutyClampedToBounds : Obligations.DutyClampedToBounds :=
  ⟨rfl, dutyOperand_eq, fun _ _ hfloor =>
    ⟨dutyClamp_below, dutyClamp_above hfloor, dutyClamp_inRange, dutyClamped_iff hfloor⟩⟩

/-! ### The compare function (R182) -/

section Compare

variable (d a : Nat)

theorem mul_ccrExact_le : 100 * ccrExact d a ≤ d * (a + 1) + 50 := by
  have h := mul_roundDiv_le (d * (a + 1)) 100
  unfold ccrExact
  omega

theorem lt_mul_ccrExact_succ : d * (a + 1) + 50 < 100 * (ccrExact d a + 1) := by
  have h := lt_mul_roundDiv_succ (d * (a + 1)) (d := 100) (by decide)
  unfold ccrExact
  omega

theorem ccrExact_zero : ccrExact 0 a = 0 := by
  have h := mul_ccrExact_le 0 a
  omega

/-- Duty 100 is the whole period. -/
theorem ccrExact_hundred : ccrExact 100 a = a + 1 := by
  have hlow := lt_mul_ccrExact_succ 100 a
  have hhigh := mul_ccrExact_le 100 a
  omega

variable {d a}

/-- R182's own inference: a duty of at most 100 counts at most the whole period. -/
theorem ccrExact_le (hd : d ≤ 100) : ccrExact d a ≤ a + 1 := by
  have hperiod : d * (a + 1) ≤ 100 * (a + 1) := Nat.mul_le_mul_right _ hd
  have h := mul_ccrExact_le d a
  omega

/-- One percent of 65536 counts is more than the rounding can add, so only duty 100 leaves the register's range. -/
theorem lt_ccrExact_iff (hd : d ≤ 100) (ha : a ≤ 65535) : 65535 < ccrExact d a ↔ d = 100 ∧ a = 65535 := by
  constructor
  · intro hv
    have hle := ccrExact_le (a := a) hd
    have h := mul_ccrExact_le d a
    obtain hlt | heq := Nat.lt_or_eq_of_le hd
    · have hshort : d * (a + 1) ≤ 99 * (a + 1) := Nat.mul_le_mul_right _ (by omega)
      omega
    · exact ⟨heq, by omega⟩
  · rintro ⟨rfl, rfl⟩
    rw [ccrExact_hundred]
    decide

/-- For a duty of at most 100 the cut at auto-reload + 1 does nothing. -/
theorem ccrOf_eq_min {cfg : Config} (hcfg : cfg.wf) (hd : d ≤ 100) : ccrOf cfg d a = min (ccrExact d a) 65535 := by
  rw [ccrOf_eq hcfg, Nat.min_eq_left (ccrExact_le hd)]

theorem ccrOf_le {cfg : Config} (hcfg : cfg.wf) : ccrOf cfg d a ≤ 65535 := by
  rw [ccrOf_eq hcfg]
  exact Nat.min_le_right _ _

end Compare

/-- Settles O50: the witness is the rounded count, which its bounds fix. -/
theorem compareNearestClamped : Obligations.CompareNearestClamped := by
  intro cfg d a hcfg hd ha
  refine ⟨ccrExact d a, mul_ccrExact_le d a, lt_mul_ccrExact_succ d a, ccrExact_le hd, ccrOf_eq_min hcfg hd,
    ccrClamped_iff hcfg d a, lt_ccrExact_iff hd ha, ?zero, fun hne => ?hundred⟩
  case zero => rw [ccrOf_eq_min hcfg (Nat.zero_le _), ccrExact_zero, Nat.zero_min]
  case hundred => rw [ccrOf_eq_min hcfg le_rfl, ccrExact_hundred, Nat.min_eq_left (by omega)]

/-! ### PWCCR (R183) -/

/-- Settles O51: the functions of the clamped operands, and the report as a number. -/
theorem pwccrCompareValue : Obligations.PwccrCompareValue := by
  refine ⟨by decide, fun s d a rep hcfg hd ha hrep => ?_⟩
  obtain rfl : rep = clampReport (dutyClamped s.cfg (dutyOperand s.ops.a0)) (ccrClamped s.cfg d a)
      (decide (65535 < s.ops.a1.toNat)) :=
    BitVec.eq_of_toNat_eq (by simp only [hrep, clampReport_toNat, decide_eq_true_eq])
  simp only [exec, execPwccr, clampTo_arrW hcfg, exceeds_arrW_eq hcfg, ← ha, ← hd]
  rfl

end Sys2Proof.Machine
end

section
/-!
PROOFS. PWCFG and PWDUTY (R184 to R187): the checks they share, what a duty commit writes for any rewriting of the selected
channels, and that of two PWDUTY with PE = 1 the last becomes active at the update event (R185, R206).
-/

namespace Sys2Proof.Machine

open Sys2Proof.Claims

/-! ### CHSEL bit by bit (R80) -/

theorem selects_extract (sel : BitVec 8) (c : ChId) :
    selects (sel.extractLsb' 0 4) c = sel.getLsbD (channelNo c - 1) := by
  cases c <;> simp [selects, channelNo]

theorem channelUnconfigured_eq {s : State} {sel : BitVec 8} {tid : BitVec 2} {b : TimId}
    (hb : timOf s.cfg tid = some b) :
    channelUnconfigured s sel tid = !selectedConfigured s b (sel.extractLsb' 0 4) := by
  simp [channelUnconfigured, hb, selectedConfigured, selects_extract, Bool.and_assoc]

/-! ### The checks that both commands make first (R202) -/

/-- The start that PWCFG and PWDUTY have in common: a bank, recognised channels, and the bank configured. -/
def withConfiguredBank (sel : BitVec 8) (tid : BitVec 2) (s : State)
    (k : TimId → BitVec 4 → Host.Outcome State Fault Refusal) : Host.Outcome State Fault Refusal :=
  withBank tid s fun b => withChannels sel s fun m => if !(s.tim.get b).cfgd then refuse .noTim s else k b m

/-- The checks of that start, before a command's own. -/
def configuredBankChecks (sel : BitVec 8) (tid : BitVec 2) (s : State) : List (Bool × ErrCode) :=
  [(decide (tid = 3#2), .timId), (!recognised sel, .chSel), (bankUnconfigured s tid, .noTim)]

section Checks

variable {s : State} {sel : BitVec 8} {tid : BitVec 2} {b : TimId} {e : ErrCode} {l : List (Bool × ErrCode)}
  {k : TimId → BitVec 4 → Host.Outcome State Fault Refusal}

/-- A failure is one of the start's, or of the checks that follow it. -/
theorem withConfiguredBank_refused (hcfg : s.cfg.wf)
    (he : firstFailure (configuredBankChecks sel tid s ++ l) = some e)
    (hk : ∀ b, timOf s.cfg tid = some b → firstFailure l = some e → k b (sel.extractLsb' 0 4) = .next (s.setErr e)) :
    withConfiguredBank sel tid s k = .next (s.setErr e) := by
  obtain ⟨htid, rfl⟩ | ⟨htid, he⟩ := firstFailure_cons_eq_some he
  · exact withBank_none (timOf_eq_none_of_check hcfg htid) _
  obtain ⟨b, hb⟩ := exists_timOf_of_check hcfg htid
  rw [withConfiguredBank, withBank_some hb]
  obtain ⟨hsel, rfl⟩ | ⟨hsel, he⟩ := firstFailure_cons_eq_some he
  · exact withChannels_none (chmask_of_not_recognised hcfg (by simpa using hsel)) _
  rw [withChannels_some (chmask_of_recognised hcfg (by simpa using hsel))]
  obtain ⟨hbank, rfl⟩ | ⟨hbank, he⟩ := firstFailure_cons_eq_some he
  · rw [← bankUnconfigured_eq hb, if_pos hbank, refuse]
  · rw [← bankUnconfigured_eq hb, hbank]
    exact hk b hb he

/-- What the start has established once its checks pass. -/
theorem configuredBank_of_passes (hcfg : s.cfg.wf) (h : firstFailure (configuredBankChecks sel tid s ++ l) = none)
    (hb : timOf s.cfg tid = some b) :
    chmask s.cfg sel = some (sel.extractLsb' 0 4) ∧ (s.tim.get b).cfgd = true ∧ firstFailure l = none := by
  simp only [configuredBankChecks, List.cons_append, List.nil_append, firstFailure_cons_eq_none_iff] at h
  obtain ⟨-, hsel, hbank, hrest⟩ := h
  rw [bankUnconfigured_eq hb] at hbank
  exact ⟨chmask_of_recognised hcfg (by simpa using hsel), by simpa using hbank, hrest⟩

end Checks

theorem pwcfg_refusedByChecks (sel : BitVec 8) (pe pol inv : Bool) (tid : BitVec 2) :
    RefusedByChecks (.pwcfg sel pe pol inv tid) :=
  fun _ _ hcfg he => withConfiguredBank_refused (l := []) hcfg he fun _ _ he => nomatch he

theorem pwduty_refusedByChecks (sel : BitVec 8) (tid : BitVec 2) : RefusedByChecks (.pwduty sel tid) := by
  intro s e hcfg he
  refine withConfiguredBank_refused (l := [(channelUnconfigured s sel tid, .noPwm)]) hcfg he fun b hb he => ?_
  obtain ⟨hchannel, rfl⟩ := firstFailure_single_eq_some he
  rw [channelUnconfigured_eq hb] at hchannel
  exact if_pos hchannel

/-! ### What a duty commit writes (R184 to R186) -/

/-- A clamped duty is held whole in its 7 bits. -/
theorem ofNat_dutyOf_toNat {s : State} (hcfg : s.cfg.wf) : (BitVec.ofNat 7 (dutyOf s)).toNat = dutyOf s := by
  have hduty := dutyOf_le hcfg
  rw [BitVec.toNat_ofNat, Nat.mod_eq_of_lt (by omega)]

/-- A compare value is held whole in its 16 bits. -/
theorem compareOf_toNat {s : State} (hcfg : s.cfg.wf) (b : TimId) :
    (compareOf s b).toNat = ccrOf s.cfg (dutyOf s) (s.tim.get b).arrPre.toNat :=
  toHalf_toNat (ccrOf_le hcfg)

theorem pwmClampBits_bits : ∀ duty ccr : Bool,
    (∀ k, k < 4 → (pwmClampBits duty ccr).getLsbD k = false) ∧
    (pwmClampBits duty ccr).getLsbD 4 = duty ∧ (pwmClampBits duty ccr).getLsbD 5 = ccr := by decide

/-- The state a duty commit on bank `b` leaves, where it rewrites the channels that `sel` selects by `f`. -/
def dutyCommit (s : State) (b : TimId) (sel : BitVec 8) (f : Channel → Channel) : State :=
  addClamp (dutyCommitClamp s b) (updChannels b (sel.extractLsb' 0 4) f s)

section Commit

variable (s : State) (b : TimId) (sel : BitVec 8) (f : Channel → Channel)

theorem dutyCommit_eq :
    dutyCommit s b sel f = (s.setPwm (dutyCommit s b sel f).pwm).setClamp (dutyCommit s b sel f).clamp := rfl

theorem dutyCommit_get_other {u : TimId} (h : u ≠ b) : (dutyCommit s b sel f).pwm.get u = s.pwm.get u := by
  obtain ⟨-, -, hothers⟩ := updChannels_spec b (sel.extractLsb' 0 4) f s
  exact hothers u h

theorem dutyCommit_get (c : ChId) : ((dutyCommit s b sel f).pwm.get b).get c =
    if sel.getLsbD (channelNo c - 1) then f ((s.pwm.get b).get c) else (s.pwm.get b).get c := by
  obtain ⟨-, hbank, -⟩ := updChannels_spec b (sel.extractLsb' 0 4) f s
  rw [← selects_extract]
  exact hbank c

theorem dutyCommit_get_selected {c : ChId} (h : sel.getLsbD (channelNo c - 1) = true) :
    ((dutyCommit s b sel f).pwm.get b).get c = f ((s.pwm.get b).get c) := by
  rw [dutyCommit_get, if_pos h]

theorem dutyCommit_get_unselected {c : ChId} (h : sel.getLsbD (channelNo c - 1) = false) :
    ((dutyCommit s b sel f).pwm.get b).get c = (s.pwm.get b).get c := by
  rw [dutyCommit_get, h, if_neg Bool.false_ne_true]

/-- CLAMP gains the flags of the clamps that happened, bit by bit (R19). -/
theorem dutyCommit_clamp_bits :
    (∀ k, k < 4 → (dutyCommit s b sel f).clamp.getLsbD k = s.clamp.getLsbD k) ∧
    (dutyCommit s b sel f).clamp.getLsbD 4 = (s.clamp.getLsbD 4 || dutyClamped s.cfg (dutyOperand s.ops.a0)) ∧
    (dutyCommit s b sel f).clamp.getLsbD 5 =
      (s.clamp.getLsbD 5 || ccrClamped s.cfg (dutyOf s) (s.tim.get b).arrPre.toNat) := by
  have hclamp : (dutyCommit s b sel f).clamp = s.clamp ||| dutyCommitClamp s b := rfl
  obtain ⟨hlow, hduty, hccr⟩ := pwmClampBits_bits (dutyClamped s.cfg (dutyOperand s.ops.a0))
    (ccrClamped s.cfg (dutyOf s) (s.tim.get b).arrPre.toNat)
  simp only [hclamp, dutyCommitClamp, BitVec.getLsbD_or]
  exact ⟨fun k hk => by rw [hlow k hk, Bool.or_false], by rw [hduty], by rw [hccr]⟩

end Commit

/-! ### PWCFG (R184) -/

theorem exec_pwcfg_of_passes {s : State} {sel : BitVec 8} {pe pol inv : Bool} {tid : BitVec 2} {b : TimId}
    (hcfg : s.cfg.wf) (h : Passes (.pwcfg sel pe pol inv tid) s) (hb : timOf s.cfg tid = some b) :
    exec (.pwcfg sel pe pol inv tid) s = .next (dutyCommit s b sel (pwcfgChannel s b pe pol inv)) := by
  obtain ⟨hm, hc, -⟩ := configuredBank_of_passes (l := []) hcfg h hb
  exact exec_pwcfg hb hm hc

/-- Settles O52: the three checks in order, then the channels and the CLAMP bits of the commit. -/
theorem pwcfgConfiguresChannels : Obligations.PwcfgConfiguresChannels := by
  refine ⟨fun _ _ _ _ _ => rfl, pwcfg_refusedByChecks, fun s sel pe pol inv tid b d v hcfg hpass hb hd hv => ?_⟩
  obtain rfl : d = dutyOf s := hd
  refine ⟨_, exec_pwcfg_of_passes hcfg hpass hb, dutyCommit_eq .., fun _ => dutyCommit_get_other s b sel _,
    fun _ => dutyCommit_get_unselected s b sel _, fun c x hsel hx => ?selected, dutyCommit_clamp_bits s b sel _⟩
  case selected =>
    rw [dutyCommit_get_selected s b sel _ hsel] at hx
    subst hx hv
    exact ⟨rfl, rfl, rfl, rfl, ofNat_dutyOf_toNat hcfg, compareOf_toNat hcfg b, rfl⟩

/-! ### PWDUTY (R185, R187) -/

/-- A channel an accepted PWDUTY leaves (Pseudocode R185). -/
def pwdutyChannel (s : State) (b : TimId) (ch : Channel) : Channel :=
  writeCompare (compareOf s b) ch.pe { ch with duty := BitVec.ofNat 7 (dutyOf s) }

section Pwduty

variable {s : State} {sel : BitVec 8} {tid : BitVec 2} {b : TimId}

theorem exec_pwduty (hb : timOf s.cfg tid = some b) (hm : chmask s.cfg sel = some (sel.extractLsb' 0 4))
    (hc : (s.tim.get b).cfgd = true) (hs : selectedConfigured s b (sel.extractLsb' 0 4) = true) :
    exec (.pwduty sel tid) s = .next (dutyCommit s b sel (pwdutyChannel s b)) := by
  simp only [exec, execPwduty, withBank_some hb, withChannels_some hm, hc, hs, Bool.not_true, Bool.false_eq_true, if_false]
  rfl

theorem pwduty_passes (hcfg : s.cfg.wf) (h : Passes (.pwduty sel tid) s) (hb : timOf s.cfg tid = some b) :
    chmask s.cfg sel = some (sel.extractLsb' 0 4) ∧ (s.tim.get b).cfgd = true ∧
      selectedConfigured s b (sel.extractLsb' 0 4) = true := by
  obtain ⟨hm, hc, hrest⟩ := configuredBank_of_passes (l := [(channelUnconfigured s sel tid, .noPwm)]) hcfg h hb
  obtain ⟨hs, -⟩ := firstFailure_cons_eq_none_iff.mp hrest
  rw [channelUnconfigured_eq hb] at hs
  exact ⟨hm, hc, by simpa using hs⟩

theorem selectedConfigured_dutyCommit {m : BitVec 4} (u : State) (h : selectedConfigured s b m = true) :
    selectedConfigured (dutyCommit s b sel (pwdutyChannel u b)) b m = true := by
  rw [selectedConfigured_iff] at h ⊢
  intro c hc
  rw [dutyCommit_get]
  split_ifs <;> exact h c hc

end Pwduty

/-- Settles O53: the four checks in order, then the channels and the CLAMP bits of the commit. -/
theorem pwdutyChangesDutyOnly : Obligations.PwdutyChangesDutyOnly := by
  refine ⟨fun _ _ => rfl, pwduty_refusedByChecks, fun s sel tid b d v hcfg hpass hb hd hv => ?_⟩
  obtain rfl : d = dutyOf s := hd
  obtain ⟨hm, hc, hs⟩ := pwduty_passes hcfg hpass hb
  refine ⟨_, exec_pwduty hb hm hc hs, dutyCommit_eq .., fun _ => dutyCommit_get_other s b sel _,
    fun _ => dutyCommit_get_unselected s b sel _, fun c x y hsel hy hx => ?selected, dutyCommit_clamp_bits s b sel _⟩
  case selected =>
    rw [dutyCommit_get_selected s b sel _ hsel, ← hy] at hx
    subst hx hv
    exact ⟨rfl, rfl, rfl, rfl, ofNat_dutyOf_toNat hcfg, compareOf_toNat hcfg b, rfl⟩

/-! ### Two duties between update events (R185, R206) -/

section Preloaded

variable (s : State) (b : TimId) {ch : Channel}

/-- With PE = 1 a duty waits in the preload. -/
theorem pwdutyChannel_ccrAct (h : ch.pe = true) : (pwdutyChannel s b ch).ccrAct = ch.ccrAct := if_pos h

/-- The update event makes the waiting duty active. -/
theorem channelUpdate_pwdutyChannel (h : ch.pe = true) :
    (channelUpdate (pwdutyChannel s b ch)).ccrAct = compareOf s b := if_pos h

end Preloaded

/-- Settles O54: each PWDUTY leaves the next one accepted and writes the preload alone, which the update event takes. -/
theorem lastDutyTakesEffect : Obligations.LastDutyTakesEffect := by
  intro s sel tid b c w1 w2 hcfg hpass hb hsel hpe
  obtain ⟨hm, hc, hs⟩ := pwduty_passes hcfg hpass hb
  set s1 := s.setOps { s.ops with a0 := w1 }
  set t1 := dutyCommit s1 b sel (pwdutyChannel s1 b)
  set s2 := t1.setOps { t1.ops with a0 := w2 }
  set t2 := dutyCommit s2 b sel (pwdutyChannel s2 b)
  have hexec1 : exec (.pwduty sel tid) s1 = .next t1 := exec_pwduty hb hm hc hs
  have hs2 : selectedConfigured s2 b (sel.extractLsb' 0 4) = true := selectedConfigured_dutyCommit (s := s1) s1 hs
  have hexec2 : exec (.pwduty sel tid) s2 = .next t2 := exec_pwduty hb hm hc hs2
  have hfirst : (t1.pwm.get b).get c = pwdutyChannel s1 b ((s.pwm.get b).get c) :=
    dutyCommit_get_selected s1 b sel _ hsel
  have hsecond : (t2.pwm.get b).get c = pwdutyChannel s2 b ((t1.pwm.get b).get c) :=
    dutyCommit_get_selected s2 b sel _ hsel
  have hpe1 : ((t1.pwm.get b).get c).pe = true := by
    rw [hfirst]
    exact hpe
  obtain ⟨-, hupdate, -⟩ := updateEvent_spec b t2
  refine ⟨t1, t2, hexec1, hexec2, ?waiting, ?active⟩
  case waiting => rw [hsecond, pwdutyChannel_ccrAct s2 b hpe1, hfirst, pwdutyChannel_ccrAct s1 b hpe]
  case active =>
    rw [hupdate, hsecond, channelUpdate_pwdutyChannel s2 b hpe1]
    exact compareOf_toNat (s := s2) hcfg b

end Sys2Proof.Machine
end

section
/-!
PROOFS. The events (R204 to R206): what a tick turn and an update turn are as a step, and the level of the interrupt request
lines (R207, R208).
-/

namespace Sys2Proof.Machine

open Sys2Proof.Claims

/-! ### The tick event (R204, R205) -/

theorem step_of_tick {s : State} (h : nextTurn s = .tick) : step s = .next (tickEvent (atTurn s)) := by
  rw [step, h]
  rfl

/-- While Running, on a state whose strobe is down: the increment, and the strobe exactly if CB_EN. -/
theorem tickEvent_of_running {s : State} (hrun : s.st.state = .running) (hquiet : s.cb.strobe = false) :
    tickEvent s = (s.setTick (tickWrap s.cfg (s.tick + 1#64))).setCb
      ⟨s.st.cbEn, s.cb.count + if s.st.cbEn then 1 else 0⟩ := by
  obtain ⟨-, silent, strobed⟩ := tickEvent_spec s
  cases hcb : s.st.cbEn with
  | true => exact strobed hrun hcb
  | false =>
    have hkept : s.cb = ⟨false, s.cb.count⟩ := by rw [← hquiet]
    rw [silent hrun hcb, if_neg Bool.false_ne_true, Nat.add_zero, ← hkept]
    rfl

/-- Settles O37: the two cases of the tick event, on what it finds at its turn. -/
theorem tickEventStep : Obligations.TickEventStep := by
  intro s hturn
  rw [step_of_tick hturn]
  obtain ⟨ignored, -⟩ := tickEvent_spec (atTurn s)
  refine ⟨fun hrun => by rw [ignored hrun], fun hrun => ?running⟩
  case running =>
    exact ⟨_, tickWrap_add_one_toNat s.cfg s.tick, by rw [tickEvent_of_running (s := atTurn s) hrun rfl]; rfl⟩

/-! ### The update event (R206) -/

theorem step_of_uev {s : State} {b : TimId} (h : nextTurn s = .uev b) : step s = .next (updateEvent b (atTurn s)) := by
  rw [step, h]
  rfl

/-- Settles O47: TIM and PWM are all that the update event writes, and of them bank `b`. -/
theorem updateEventStep : Obligations.UpdateEventStep := by
  intro s b hturn
  obtain ⟨frame, channels, others⟩ := updateEvent_spec b (atTurn s)
  exact ⟨_, step_of_uev hturn, frame, rfl, others, channels⟩

/-! ### What moves a request line (R207, R208) -/

theorem timIrq_iff (s : State) (t : TimId) :
    timIrq s t = true ↔ (s.tim.get t).uif = true ∧ (s.tim.get t).uie = true := by
  rw [timIrq, Bool.and_eq_true]

theorem timIrq_congr {s t : State} {b : TimId} (uif : (t.tim.get b).uif = (s.tim.get b).uif)
    (uie : (t.tim.get b).uie = (s.tim.get b).uie) : timIrq t b = timIrq s b := by
  rw [timIrq, timIrq, uif, uie]

theorem timIrq_of_tim_eq {s t : State} (h : t.tim = s.tim) (b : TimId) : timIrq t b = timIrq s b := by
  rw [timIrq, timIrq, h]

/-- An update event sets UIF of its bank, so the line is then UIE; the other lines stay. -/
theorem timIrq_updateEvent (b t : TimId) (s : State) :
    timIrq (updateEvent b s) t = if t = b then (s.tim.get t).uie else timIrq s t := by
  have htim : (updateEvent b s).tim.get t = if t = b then timerUpdate (s.tim.get b) else s.tim.get t :=
    updTim_get b t timerUpdate s
  split_ifs at htim ⊢ with h
  · subst h
    rw [timIrq, htim]
    exact Bool.true_and _
  · rw [timIrq, timIrq, htim]

/-- No update event makes a line fall. -/
theorem timIrq_updateEvent_of_up {s : State} {t : TimId} (b : TimId) (h : timIrq s t = true) :
    timIrq (updateEvent b s) t = true := by
  obtain ⟨-, uie⟩ := (timIrq_iff s t).mp h
  rw [timIrq_updateEvent, uie, h, ite_self]

theorem mem_ofBank_iff {cfg : Config} {tid : BitVec 2} {p : Piece} {f : TimId → List Piece} :
    p ∈ ofBank cfg tid f ↔ ∃ b, timOf cfg tid = some b ∧ p ∈ f b := by
  cases hb : timOf cfg tid with
  | none => simp [ofBank, hb]
  | some b => simp [mayWrite_ofBank hb]

/-- Of the rows of Table R37 TMCFG's lists UIE of its bank, TMCLR's and TMACK's UIF, TMRST's both, and no other row either. -/
theorem canDropIrq_of_mem_mayWrite {cfg : Config} {i : Instr} {b : TimId}
    (h : Piece.timUif b ∈ mayWrite cfg i ∨ Piece.timRest b ∈ mayWrite cfg i) : canDropIrq cfg i b := by
  cases i with
  | tmcfg sel ie opm arpe dir tid =>
    exact ⟨tid, by simpa [mayWrite, mem_ofBank_iff] using h, .inr (.inr (.inr ⟨_, _, _, _, _, rfl⟩))⟩
  | tmrst tid => exact ⟨tid, by simpa [mayWrite, mem_ofBank_iff] using h, .inr (.inr (.inl rfl))⟩
  | tmclr tid => exact ⟨tid, by simpa [mayWrite, mem_ofBank_iff] using h, .inl rfl⟩
  | tmack tid => exact ⟨tid, by simpa [mayWrite, mem_ofBank_iff] using h, .inr (.inl rfl)⟩
  | _ => simp [mayWrite, not_mem_ofBank] at h

theorem uie_of_same {s t : State} {b : TimId} (h : Same (.timRest b) s t) : (t.tim.get b).uie = (s.tim.get b).uie := by
  have huie := congrArg Timer.uie h
  exact huie

/-- A command that cannot drop a line keeps the two bits it is made of. -/
theorem canDropIrq_of_exec {i : Instr} {s t : State} {b : TimId} (h : exec i s = .next t)
    (hne : timIrq t b ≠ timIrq s b) : canDropIrq s.cfg i b := by
  by_contra hkeeps
  obtain ⟨huif, hrest⟩ := not_or.mp (mt canDropIrq_of_mem_mayWrite hkeeps)
  have uif : (t.tim.get b).uif = (s.tim.get b).uif := commandFootprint i s t _ h huif
  exact hne (timIrq_congr uif (uie_of_same (commandFootprint i s t _ h hrest)))

/-- The ways a line falls: of the effects of a step, all others keep TIM or set UIF. -/
theorem irqLine_falls {s t : State} {b : TimId} (h : step s = .next t) (hup : timIrq s b = true)
    (hdown : timIrq t b = false) : nextTurn s = .rst ∨ ∃ i, RunsCommand s i ∧ canDropIrq s.cfg i b := by
  obtain ⟨u, hu, effect⟩ := step_effect h
  have hcfg : u.cfg = s.cfg := by obtain ⟨_, _, _, rfl⟩ := hu; rfl
  have hupu : timIrq u b = true := by obtain ⟨_, _, _, rfl⟩ := hu; exact hup
  have hne : timIrq t b ≠ timIrq u b := by rw [hupu, hdown]; exact Bool.false_ne_true
  have moved : t.tim ≠ u.tim := fun same => hne (timIrq_of_tim_eq same b)
  cases effect with
  | nothing h => exact absurd (h ▸ rfl) moved
  | inputs i h => exact absurd (h ▸ rfl) moved
  | write r v _ h =>
    obtain ⟨-, -, -, -, -, -, -, -, -, same, -⟩ := writeReg_same r v u
    exact absurd (h ▸ same) moved
  | illegalWord e h => exact absurd (h ▸ rfl) moved
  | command i runs h => exact .inr ⟨i, runs, hcfg ▸ canDropIrq_of_exec h hne⟩
  | sequencer _ h =>
    obtain ⟨-, -, -, -, -, -, -, -, -, -, same, -⟩ := seqStep_same u
    exact absurd (h ▸ same) moved
  | tick _ h =>
    obtain ⟨-, -, -, -, -, -, -, -, -, -, -, -, -, same, -⟩ := tickEvent_same u
    exact absurd (h ▸ same) moved
  | update c _ h => exact absurd (h ▸ timIrq_updateEvent_of_up c hupu) (by rw [hdown]; exact Bool.false_ne_true)
  | reset turn => exact .inl turn

theorem irqLine_after_update {s u : State} {b : TimId} (hturn : nextTurn s = .uev b) (huie : (s.tim.get b).uie = true)
    (h : step s = .next u) : timIrq u b = true := by
  rw [step_of_uev hturn] at h
  cases h
  rw [timIrq_updateEvent, if_pos rfl]
  exact huie

/-- R208: the number a request reaches the core with. -/
theorem coreIrq_eq_some_iff (s : State) (t : TimId) (n : Nat) :
    coreIrq s t = some n ↔ timIrq s t = true ∧ s.nvicEn.get t = true ∧ n = s.cfg.irqOf.get t := by
  unfold coreIrq
  rw [Option.ite_none_right_eq_some, Bool.and_eq_true, and_assoc, Option.some.injEq, eq_comm (a := n)]

/-- Settles O48: the ways a line falls, the update event that sets UIF, and the gate NVIC_EN. -/
theorem irqLineLevel : Obligations.IrqLineLevel := by
  refine ⟨fun s u t => irqLine_falls, fun s u t => irqLine_after_update, fun s t n => ?core⟩
  case core => rw [coreIrq_eq_some_iff, timIrq_iff, and_assoc]

end Sys2Proof.Machine
end

section
/-!
PROOFS. Every command answers a next state (R200, R209), so that a step stops only at an access outside the window (R50); and
each command is refused exactly by its first failing check (R202).
-/

namespace Sys2Proof.Machine

open Sys2Proof.Claims

/-! ### Every step goes on (R200, R209) -/

/-- The outcome is a next state: neither a fault nor a refusal of the model. -/
def GoesOn (o : Host.Outcome State Fault Refusal) : Prop := ∃ t, o = .next t

theorem GoesOn.next (t : State) : GoesOn (.next t) := ⟨t, rfl⟩

theorem GoesOn.refuse (e : ErrCode) (s : State) : GoesOn (refuse e s) := ⟨_, rfl⟩

/-- A check goes on if both of its branches do. -/
theorem GoesOn.ite {p : Prop} [Decidable p] {x y : Host.Outcome State Fault Refusal} (hx : GoesOn x) (hy : GoesOn y) :
    GoesOn (if p then x else y) := by
  split
  · exact hx
  · exact hy

theorem GoesOn.withBank {tid : BitVec 2} {s : State} {k : TimId → Host.Outcome State Fault Refusal}
    (hk : ∀ b, GoesOn (k b)) : GoesOn (withBank tid s k) := by
  cases hb : timOf s.cfg tid with
  | none => rw [withBank_none hb]; exact .next _
  | some b => rw [withBank_some hb]; exact hk b

theorem GoesOn.withChannels {sel : BitVec 8} {s : State} {k : BitVec 4 → Host.Outcome State Fault Refusal}
    (hk : ∀ m, GoesOn (k m)) : GoesOn (withChannels sel s k) := by
  cases hm : chmask s.cfg sel with
  | none => rw [withChannels_none hm]; exact .next _
  | some m => rw [withChannels_some hm]; exact hk m

/-- R200: a command completes or is refused, in both cases with a next state. -/
theorem exec_goesOn (i : Instr) (s : State) : GoesOn (exec i s) := by
  cases i with
  | ckdrv | ckws | stget | stset | stcb _ | pwccr => exact .next _
  | ckaux => exact .ite (.next _) (.next _)
  | ckcfg => exact .ite (.refuse _ _) (.ite (.refuse _ _) (.next _))
  | stcalc | stcfg | tmpsc => exact .ite (.refuse _ _) (.next _)
  | sten =>
    by_cases h : s.st.state = .unconfigured
    · exact ⟨_, exec_sten_unconfigured h⟩
    · exact ⟨_, exec_sten h⟩
  | stdis =>
    by_cases h : s.st.state = .running
    · exact ⟨_, exec_stdis_running h⟩
    · exact ⟨_, exec_stdis_of_ne_running h⟩
  | std2t _ => exact .ite (.refuse _ _) (.ite (.refuse _ _) (.next _))
  | tmcfg sel ie opm arpe dir tid =>
    cases hd : dirOf dir with
    | none => exact ⟨_, exec_tmcfg_field hd⟩
    | some d =>
      simp only [exec, execTmcfg, hd]
      exact .withBank fun b => .withChannels fun m => .ite (.refuse _ _) (.ite (.refuse _ _) (.next _))
  | tmen _ => exact .withBank fun b => .ite (.refuse _ _) (.next _)
  | tmdis _ | tmrst _ | tmirq _ | tmclr _ | tmack _ => exact .withBank fun b => .next _
  | pwcfg _ _ _ _ _ => exact .withBank fun b => .withChannels fun m => .ite (.refuse _ _) (.next _)
  | pwduty _ _ =>
    exact .withBank fun b => .withChannels fun m => .ite (.refuse _ _) (.ite (.refuse _ _) (.next _))

theorem execWord_goesOn (w : Word) (s : State) : GoesOn (execWord w s) := by
  cases hw : decode w with
  | ok i => rw [execWord_ok hw]; exact exec_goesOn i s
  | error e => exact ⟨_, execWord_error hw s⟩

theorem regWrite_goesOn (off : BitVec 10) (v : Word) (s : State) : GoesOn (regWrite off v s) := by
  unfold regWrite
  split
  · exact .next _
  · exact execWord_goesOn v s
  · exact .next _

theorem portWrite_goesOn (a : HostAccess) (off : BitVec 10) (v : Word) (s : State) : GoesOn (portWrite a off v s) :=
  .ite (.next _) (regWrite_goesOn off v _)

/-- The window is the 1,024 bytes whose upper address bits are BASE's (R50). -/
theorem windowOffset_eq_none_iff (cfg : Config) (addr : Word) :
    windowOffset cfg addr = none ↔ addr.toNat / 1024 ≠ cfg.baseHi.toNat := by
  have hhigh : (addr.extractLsb' 10 22).toNat = addr.toNat / 1024 := by
    rw [BitVec.extractLsb'_toNat, Nat.shiftRight_eq_div_pow, Nat.mod_eq_of_lt (by omega)]
  rw [← hhigh, Ne, BitVec.toNat_inj]
  simp [windowOffset]

/-- An access goes on where its address lies in the window; elsewhere it is the model's one fault. -/
theorem portAccess_goesOn_or_fault (a : HostAccess) (s : State) :
    GoesOn (portAccess a s) ∨ (portAccess a s = .fault .outsideWindow ∧ a.addr.toNat / 1024 ≠ s.cfg.baseHi.toNat) := by
  rw [← windowOffset_eq_none_iff]
  unfold portAccess
  cases hoff : windowOffset s.cfg a.addr with
  | none => exact .inr ⟨rfl, rfl⟩
  | some off =>
    refine .inl (.ite ?_ (.next _))
    cases a.kind with
    | read => exact .next _
    | write v => exact portWrite_goesOn a off v s

/-- A turn of the host goes on but for the access it makes. -/
theorem hostTurn_goesOn_or_fault (s : State) : GoesOn (hostTurn s) ∨ (hostTurn s = .fault .outsideWindow ∧
    ∃ a, (s.host.port = some a ∨ (s.host.port = none ∧ ∃ rest, s.host.queue = a :: rest)) ∧
      a.addr.toNat / 1024 ≠ s.cfg.baseHi.toNat) := by
  unfold hostTurn
  cases hport : s.host.port with
  | some a =>
    exact (portAccess_goesOn_or_fault a _).imp_right fun ⟨hfault, haddr⟩ => ⟨hfault, a, .inl rfl, haddr⟩
  | none =>
    cases hqueue : s.host.queue with
    | nil => exact .inl (.next _)
    | cons a rest =>
      exact (portAccess_goesOn_or_fault a _).imp_right fun ⟨hfault, haddr⟩ =>
        ⟨hfault, a, .inr ⟨rfl, rest, rfl⟩, haddr⟩

/-- Settles O16: every turn but the host's answers a next state by its definition. -/
theorem noTrapNoStop : Obligations.NoTrapNoStop := by
  intro s
  cases hturn : nextTurn s with
  | host =>
    rw [step, hturn]
    exact (hostTurn_goesOn_or_fault (beginStep s)).imp_right fun ⟨hfault, haccess⟩ => ⟨hfault, rfl, haccess⟩
  | handler _ | sequencer | tick | uev _ | inputs _ | rst =>
    rw [step, hturn]
    exact .inl ⟨_, rfl⟩

/-! ### Refused exactly by the first failing check (R202) -/

theorem refusedByChecks_of_nil {i : Instr} (h : ∀ s, checks i s = []) : RefusedByChecks i := by
  intro s e _ he
  rw [h] at he
  cases he

theorem ckcfg_refusedByChecks : RefusedByChecks .ckcfg := by
  obtain ⟨-, ckcfg⟩ := ckcfgStartsSequencer
  intro s e _ he
  obtain ⟨done, invalid, -⟩ := ckcfg s
  obtain ⟨hv, rfl⟩ | ⟨hv, he⟩ := firstFailure_cons_eq_some he
  · exact done hv
  · obtain ⟨hk, rfl⟩ := firstFailure_single_eq_some he
    exact invalid hv (of_decide_eq_true hk)

theorem sten_refusedByChecks : RefusedByChecks .sten := by
  intro s e _ he
  obtain ⟨hs, rfl⟩ := firstFailure_single_eq_some he
  exact exec_sten_unconfigured (of_decide_eq_true hs)

/-- R202 for all 23 commands, each by its own checks in their order. -/
theorem refusedByChecks (i : Instr) : RefusedByChecks i := by
  cases i with
  | ckdrv | ckws | ckaux | stget | stset | stdis | stcb _ | pwccr => exact refusedByChecks_of_nil fun _ => rfl
  | ckcfg => exact ckcfg_refusedByChecks
  | stcalc => obtain ⟨-, h, -⟩ := stcalcReloadValue; exact h
  | stcfg => obtain ⟨-, h, -⟩ := stcfgStartsTimeBase; exact h
  | sten => exact sten_refusedByChecks
  | std2t ms => obtain ⟨-, h, -⟩ := std2tLeastTicks; exact h ms
  | tmpsc => obtain ⟨-, h, -⟩ := tmpscPrescaler; exact h
  | tmcfg sel ie opm arpe dir tid => exact tmcfg_refusedByChecks sel ie opm arpe dir tid
  | tmen tid => exact tmen_refusedByChecks tid
  | tmdis _ | tmrst _ | tmirq _ | tmclr _ | tmack _ => exact refusedByChecks_of_withBank (fun _ => rfl) (fun _ => rfl)
  | pwcfg sel pe pol inv tid => exact pwcfg_refusedByChecks sel pe pol inv tid
  | pwduty sel tid => exact pwduty_refusedByChecks sel tid

/-- The command's outcome is a next state with ERR as it was. -/
def Completes (i : Instr) (s : State) : Prop := ∃ t, exec i s = .next t ∧ t.err = s.err

/-- A command whose first check is its TID has a bank once that passes, and its other checks pass. -/
theorem bank_of_passes {i : Instr} {s : State} {tid : BitVec 2} {l : List (Bool × ErrCode)} (hcfg : s.cfg.wf)
    (hpass : Passes i s) (hchecks : checks i s = (decide (tid = 3#2), .timId) :: l) :
    ∃ b, timOf s.cfg tid = some b ∧ firstFailure l = none := by
  rw [Passes, hchecks, firstFailure_cons_eq_none_iff] at hpass
  obtain ⟨htid, hrest⟩ := hpass
  obtain ⟨b, hb⟩ := exists_timOf_of_check hcfg htid
  exact ⟨b, hb, hrest⟩

/-- STCFG's check is that the period fits (R122). -/
theorem periodFits_of_passes {s : State} (hcfg : s.cfg.wf) (h : Passes .stcfg s) :
    periodFits s.cfg s.ops.a0.toNat = true := by
  obtain ⟨hrange, -⟩ := firstFailure_cons_eq_none_iff.mp h
  rw [Bool.or_eq_false_iff, decide_eq_false_iff_not, decide_eq_false_iff_not] at hrange
  exact (periodFits_iff hcfg _).mpr (by omega)

/-- Where no check fails the command has its accepted form, which does not write ERR. -/
theorem completes_of_passes {i : Instr} {s : State} (hcfg : s.cfg.wf) (h : Passes i s) : Completes i s := by
  cases i with
  | ckdrv | ckws | stget | stset | stcb _ | pwccr => exact ⟨_, rfl, rfl⟩
  | ckaux =>
    by_cases hsw : reqSw s.clkreq = 3#2
    · exact ⟨_, exec_ckaux_of_reserved hsw, rfl⟩
    · exact ⟨_, exec_ckaux hsw, rfl⟩
  | ckcfg =>
    simp only [Passes, checks, firstFailure_cons_eq_none_iff, decide_eq_false_iff_not, not_not] at h
    obtain ⟨hv, hk, -⟩ := h
    obtain ⟨-, ckcfg⟩ := ckcfgStartsSequencer
    obtain ⟨-, -, accepted⟩ := ckcfg s
    exact ⟨_, accepted hv hk, rfl⟩
  | stcalc =>
    obtain ⟨hv, -⟩ := firstFailure_cons_eq_none_iff.mp h
    exact ⟨_, exec_stcalc (by simpa using hv), State.setRes_err ..⟩
  | stcfg => exact ⟨_, exec_stcfg (periodFits_of_passes hcfg h), rfl⟩
  | sten =>
    obtain ⟨hs, -⟩ := firstFailure_cons_eq_none_iff.mp h
    exact ⟨_, exec_sten (of_decide_eq_false hs), rfl⟩
  | stdis =>
    by_cases hs : s.st.state = .running
    · exact ⟨_, exec_stdis_running hs, rfl⟩
    · exact ⟨_, exec_stdis_of_ne_running hs, rfl⟩
  | std2t ms =>
    simp only [Passes, checks, firstFailure_cons_eq_none_iff, Bool.not_eq_false', decide_eq_false_iff_not] at h
    obtain ⟨hv, hs, -⟩ := h
    exact ⟨_, exec_std2t ms hv hs, rfl⟩
  | tmpsc =>
    obtain ⟨h1, -⟩ := firstFailure_cons_eq_none_iff.mp h
    exact ⟨_, exec_tmpsc fun h => of_decide_eq_false h1 (congrArg BitVec.toNat h), rfl⟩
  | tmcfg sel ie opm arpe dir tid =>
    obtain ⟨-, hrest⟩ := firstFailure_cons_eq_none_iff.mp h
    obtain ⟨htid, -⟩ := firstFailure_cons_eq_none_iff.mp hrest
    obtain ⟨b, hb⟩ := exists_timOf_of_check hcfg htid
    obtain ⟨d, -, hexec⟩ := exec_tmcfg_of_passes hcfg h hb
    exact ⟨_, hexec, by rw [tmcfgAccept_eq]; rfl⟩
  | tmen tid =>
    obtain ⟨b, hb, hrest⟩ := bank_of_passes hcfg h rfl
    obtain ⟨hbank, -⟩ := firstFailure_cons_eq_none_iff.mp hrest
    rw [bankUnconfigured_eq hb, Bool.not_eq_false'] at hbank
    exact ⟨_, exec_tmen hb hbank, rfl⟩
  | tmdis tid | tmrst tid | tmirq tid | tmclr tid | tmack tid =>
    obtain ⟨b, hb, -⟩ := bank_of_passes hcfg h rfl
    exact ⟨_, withBank_some hb _, rfl⟩
  | pwcfg sel pe pol inv tid =>
    obtain ⟨b, hb, -⟩ := bank_of_passes hcfg h rfl
    exact ⟨_, exec_pwcfg_of_passes hcfg h hb, rfl⟩
  | pwduty sel tid =>
    obtain ⟨b, hb, -⟩ := bank_of_passes hcfg h rfl
    obtain ⟨hm, hc, hs⟩ := pwduty_passes hcfg h hb
    exact ⟨_, exec_pwduty hb hm hc hs, rfl⟩

/-- Settles O14, command by command: the refusals by the first check that fails, the completion from all of them passing. -/
theorem exactRefusals : Obligations.ExactRefusals :=
  fun i s hcfg => ⟨fun e he => refusedByChecks i s e hcfg he, completes_of_passes hcfg⟩

end Sys2Proof.Machine
end

section
/-!
PROOFS. Reset from any state (R230), and the order of the image writes (R240, R242): the switch bits of O_CFGR leave 0 in
phase SWITCH alone, where the images already hold the wait-states and hse_on.
-/

namespace Sys2Proof.Machine

open Sys2Proof.Claims

/-- Settles O56: the reset turn answers, in every state, `resetEvent` of what it finds. -/
theorem resetFromAnyState : Obligations.ResetFromAnyState := by
  intro s hr
  rw [step, hr]
  rfl

/-! ### The writers of the images (R25) -/

/-- Only a turn of the sequencer and reset write the images. -/
theorem img_of_effect {s u t : State} (effect : StepEffect s u t) :
    t.img = u.img ∨ t = seqStep u ∨ t.img = State.reset.img := by
  cases effect with
  | nothing h => exact .inl (h ▸ rfl)
  | inputs i h => exact .inl (h ▸ rfl)
  | write r v _ h =>
    obtain ⟨-, -, -, -, -, -, same, -⟩ := writeReg_same r v u
    exact .inl (h ▸ same)
  | illegalWord e h => exact .inl (h ▸ rfl)
  | command i _ h => exact .inl (commandFootprint i u t .images h (not_mem_mayWrite (by simp) _ _))
  | sequencer _ h => exact .inr (.inl h)
  | tick _ h =>
    obtain ⟨-, -, -, -, -, -, -, -, -, -, -, same, -⟩ := tickEvent_same u
    exact .inl (h ▸ same)
  | update b _ h => exact .inl (h ▸ rfl)
  | reset _ h => exact .inr (.inr (h ▸ rfl))

/-! ### The switch of the source (R111, R240, R242) -/

/-- R108: the batch that phase CFGR copies from the request leaves the switch bits out. -/
theorem batch_switchBits (c : Word) : (c &&& cfgrBatchMask) &&& 0x00000003#32 = 0#32 := by
  have disjoint : cfgrBatchMask &&& 0x00000003#32 = 0#32 := by decide
  rw [BitVec.and_assoc, disjoint, BitVec.and_zero]

/-- A turn of the sequencer that takes the switch bits from 0 is phase SWITCH. -/
theorem seq_eq_switch_of_switchBits {u : State} (before : u.img.cfgr &&& 0x00000003#32 = 0#32)
    (after : (seqStep u).img.cfgr &&& 0x00000003#32 ≠ 0#32) : u.seq = .switch := by
  obtain ⟨-, same⟩ | ⟨-, same⟩ := seqStep_cases u
  · rw [same] at after
    cases hseq : u.seq
    case switch => rfl
    case cfgr => exact absurd (by simp [seqPhase, hseq, before, batch_switchBits]) after
    all_goals exact absurd (by simpa [seqPhase, hseq] using before) after
  · exact absurd (same.symm ▸ before) after

/-- R106, R109: `hse_on` is among the enable bits of every request. -/
theorem hseOn_of_enablesFor (c : Word) : (enablesFor c).getLsbD 16 = true := by
  unfold enablesFor
  split <;> decide

/-- R240: in phase SWITCH the images hold the wait-states of the request, which is valid, and hse_on; nothing is cached. -/
theorem EngineInv.images_at_switch {u : State} (h : EngineInv u) (hseq : u.seq = .switch) :
    u.img.flash.toNat % 8 = wsReq u.cfg (fCore u.cfg u.clkreq) ∧ u.img.rcccr.getLsbD 16 = true ∧ u.clkValid = false := by
  obtain ⟨notValid, valid⟩ := h.clock.running (by simp [hseq])
  obtain ⟨-, waitStates, -⟩ := valid_of_ckflagsOf h.parameters valid
  have images := h.clock.images
  simp only [sequenceImages, hseq] at images
  rw [images, ← reqLat_toNat]
  exact ⟨waitStates, hseOn_of_enablesFor _, notValid⟩

/-- A turn of the sequencer that takes the switch bits from 0 finds the wait-states and hse_on, and leaves CLK_VALID. -/
theorem EngineInv.seqStep_of_switchBits {u : State} (h : EngineInv u) (before : u.img.cfgr &&& 0x00000003#32 = 0#32)
    (after : (Machine.seqStep u).img.cfgr &&& 0x00000003#32 ≠ 0#32) :
    u.img.flash.toNat % 8 = wsReq u.cfg (fCore u.cfg u.clkreq) ∧ u.img.rcccr.getLsbD 16 = true ∧ u.clkValid = false ∧
    (Machine.seqStep u).clkValid = false := by
  have hseq : u.seq = .switch := seq_eq_switch_of_switchBits before after
  obtain ⟨flash, hseOn, notValid⟩ := h.images_at_switch hseq
  rw [seqStep_switch hseq]
  exact ⟨flash, hseOn, notValid, notValid⟩

/-- Settles O59: of what a step can do only a turn of the sequencer takes the switch bits from 0. -/
theorem flashWrittenBeforeSwitch : Obligations.FlashWrittenBeforeSwitch := by
  intro s t inv hstep before after
  obtain ⟨u, ⟨l, p, c, rfl⟩, effect⟩ := step_effect hstep
  have found : EngineInv (((s.setTurns l).setHost p).setCb c) := inv.of_pieces_eq (by rfl)
  obtain same | rfl | reset := img_of_effect effect
  · exact absurd (same ▸ before) after
  · exact found.seqStep_of_switchBits before after
  · exact absurd (by rw [reset]; rfl) after

end Sys2Proof.Machine
end
